-- ==== Sys2Proof/Word.lean ====
section
/-! DEFINITION. The widths of the machine (rule R6 of 00_scope.md): bytes, halfwords, words and register numbers. -/

namespace Sys2Proof

/-- A byte, 8 bits (rule R6). -/
abbrev Byte := BitVec 8

/-- A halfword, 16 bits (rule R6). -/
abbrev Half := BitVec 16

/-- A word, 32 bits: a register, an address, an ARM instruction (rule R6). -/
abbrev Word := BitVec 32

/-- A register number of ARM state, r0 to r15 (rule R27). -/
abbrev Reg := BitVec 4

/-- A low register number of Thumb state, r0 to r7 (rule R25). -/
abbrev LReg := BitVec 3

/-- The register number of a low register (rule R25: Thumb r0 to r7 are ARM r0 to r7). -/
abbrev LReg.reg (r : LReg) : Reg := r.setWidth 4

end Sys2Proof
end

