-- ==== Sys2Proof/Config.lean ====
section
/-! DEFINITION. What an implementation fixes and the free values: constants without a body, so that nothing in Lean can
evaluate them (rule R16 of 00_scope.md, treatment "any value"), and the byte that unlisted memory reads as. -/

namespace Sys2Proof

/-- The n-th free bit of a run: any value (log entry 8). -/
opaque Config.freeBit : Nat → Bool

/-- The n-th free word of a run: any value (log entry 8). -/
opaque Config.freeWord : Nat → Word

/-- The code of a TAP controller state on TAPSM[3:0], the states numbered as `TapState.number` does: any value, for the source
does not give it (rule R570 of 61_debug.md, log entry 50). -/
opaque Config.tapsm : Nat → BitVec 4

/-- What a byte of memory that nothing has written reads as. DESIGN CHOICE, unsafe: the spec gives RAM no contents after
power-on (rule R601 of 70_reset_and_hazards.md; log entry 5). -/
def Config.unlistedByte : Byte := 0#8

end Sys2Proof
end

