-- ==== Sys2Proof/Syntax.lean ====
section
/-! DEFINITION. The instructions of the ARM7TDMI as syntax: the operand types, one constructor of `Instr` per row of
spec/opcode_table.json (fields named as the table names them), the operand restrictions the spec lists as UNPREDICTABLE
and the reasons for which a word is no instruction. -/

namespace Sys2Proof

/-- The sixteen codes of the condition field, rule R113; `nv` is code 1111, rule R114. -/
inductive Cond where
  | eq | ne | cs | cc | mi | pl | vs | vc | hi | ls | ge | lt | gt | le | al | nv
  deriving DecidableEq, Repr

/-- The `type` field of a shifted register operand, rule R115: LSL, LSR, ASR, ROR. -/
inductive ShiftType where
  | lsl | lsr | asr | ror
  deriving DecidableEq, Repr

/-- The sixteen data-processing operations, rule R116. -/
inductive DpOp where
  | and | eor | sub | rsb | add | adc | sbc | rsc | tst | teq | cmp | cmn | orr | mov | bic | mvn
  deriving DecidableEq, Repr

/-- The operand combinations that 93_implementation_defined.md section 2 lists as UNPREDICTABLE in the architecture and
that decision D18 of 92_eei_decisions.md refuses. Each constructor names its line of that list. -/
inductive Restriction where
  /-- U3 and U21: a should-be-zero field of an executed format is not zero (rules R118, R172, R220). -/
  | shouldBeZero
  /-- U4: r15 as the register that holds a shift amount (rule R124). -/
  | shiftAmountPc
  /-- U6: a halfword or signed transfer with P = 0 and W = 1 (rule R132). -/
  | postIndexedWriteBack
  /-- U9: Thumb ADD, CMP or MOV of format T5 with both registers low (rule R143). -/
  | lowRegisters
  /-- U14: r15 as the register of MRS or MSR (rules R203, R204). -/
  | psrTransferPc
  /-- U17: r15 in a multiply (rule R222). -/
  | multiplyPc
  /-- U18 and U19: registers of a multiply that must differ are equal (rule R222). -/
  | multiplyOverlap
  /-- U27: write-back with r15 as the base (rule R258 (a)). -/
  | writeBackPc
  /-- U28: write-back with the base equal to the transferred register (rule R258 (b)). -/
  | writeBackTransferred
  /-- U29: r15 as the offset register (rule R258 (c)). -/
  | offsetPc
  /-- U29: the offset register equal to the base with write-back (rule R258 (d)). -/
  | offsetIsBase
  /-- U30: r15 as the register of a byte, halfword, signed or T transfer (rule R258 (e), (f)). -/
  | transferPc
  /-- U33: LDM with write-back and the base in the list (rules R296, R445). -/
  | loadBaseInList
  /-- U34: STM with write-back and the base in the list but not lowest (rules R297, R444). -/
  | storeBaseInList
  /-- U35: an empty register list (rule R300). -/
  | emptyList
  /-- U36: LDM or STM with r15 as the base (rule R300). -/
  | blockBasePc
  /-- U37: a User-bank LDM or STM with write-back (rule R298 (a)). -/
  | userBankWriteBack
  /-- U41: r15 in a swap (rule R319). -/
  | swapPc
  /-- U41: the base of a swap equal to one of its registers (rule R319). -/
  | swapOverlap
  /-- U43: MCR with r15 (rule R331). -/
  | mcrPc
  /-- U45: LDC or STC with P = 0 and W = 0 (rule R333). -/
  | coprocessorUnindexed
  /-- U45: LDC or STC with r15 as the base and write-back (rule R333). -/
  | coprocessorWriteBackPc
  deriving DecidableEq, Repr

/-- Why a fetched word is not an instruction of the tables: the cases of rule R118 (ARM) and rule R143 (b) (Thumb),
which the spec says to refuse. -/
inductive DecodeError where
  /-- Rule R118 (a): a word of the multiply and swap space that is no multiply and no swap. -/
  | multiplySpace
  /-- Rule R118 (a): a halfword transfer with a should-be-zero field that is not zero. -/
  | halfwordFixedField
  /-- Rule R118 (a): L = 0 with S = 1, a signed store. -/
  | signedStore
  /-- Rule R118 (b): opcode 10xx with S = 0 that is not exactly BX, MRS or MSR. -/
  | statusSpace
  /-- Rule R143 (b): a Thumb halfword of the 1011 group that is neither T13 nor T14. -/
  | thumbMiscellaneous
  /-- Rule R143 (b): Thumb BX with H1 = 1 or bits [2:0] not 000. -/
  | thumbBranchExchange
  /-- Rule R143 (b): a Thumb halfword 0xE800 to 0xEFFF. -/
  | thumbUnallocated
  deriving DecidableEq, Repr

/-- One constructor per row of spec/opcode_table.json; a leading `t` marks a Thumb row. A field the table lets vary is
an operand even where a rule says it should be zero. -/
inductive Instr where
  /-- BX, format A1, rule R244 of 42_branch.md. -/
  | bx (cond : Cond) (rm : Reg)
  /-- MUL, format A2, rule R225 of 41_multiply.md. -/
  | mul (cond : Cond) (s : Bool) (rd : Reg) (rn : Reg) (rs : Reg) (rm : Reg)
  /-- MLA, format A2, rule R226 of 41_multiply.md. -/
  | mla (cond : Cond) (s : Bool) (rd : Reg) (rn : Reg) (rs : Reg) (rm : Reg)
  /-- UMULL, format A3, rule R227 of 41_multiply.md. -/
  | umull (cond : Cond) (s : Bool) (rdHi : Reg) (rdLo : Reg) (rs : Reg) (rm : Reg)
  /-- UMLAL, format A3, rule R228 of 41_multiply.md. -/
  | umlal (cond : Cond) (s : Bool) (rdHi : Reg) (rdLo : Reg) (rs : Reg) (rm : Reg)
  /-- SMULL, format A3, rule R229 of 41_multiply.md. -/
  | smull (cond : Cond) (s : Bool) (rdHi : Reg) (rdLo : Reg) (rs : Reg) (rm : Reg)
  /-- SMLAL, format A3, rule R230 of 41_multiply.md. -/
  | smlal (cond : Cond) (s : Bool) (rdHi : Reg) (rdLo : Reg) (rs : Reg) (rm : Reg)
  /-- SWP, format A4, rule R320 of 45_swap.md. -/
  | swp (cond : Cond) (rn : Reg) (rd : Reg) (rm : Reg)
  /-- SWPB, format A4, rule R321 of 45_swap.md. -/
  | swpb (cond : Cond) (rn : Reg) (rd : Reg) (rm : Reg)
  /-- STRH, format A5, rule R278 of 43_load_store.md. -/
  | strhReg (cond : Cond) (p : Bool) (u : Bool) (w : Bool) (rn : Reg) (rd : Reg) (rm : Reg)
  /-- STRH, format A6, rule R278 of 43_load_store.md. -/
  | strhImm (cond : Cond) (p : Bool) (u : Bool) (w : Bool) (rn : Reg) (rd : Reg) (off : BitVec 8)
  /-- LDRH, format A5, rule R275 of 43_load_store.md. -/
  | ldrhReg (cond : Cond) (p : Bool) (u : Bool) (w : Bool) (rn : Reg) (rd : Reg) (rm : Reg)
  /-- LDRH, format A6, rule R275 of 43_load_store.md. -/
  | ldrhImm (cond : Cond) (p : Bool) (u : Bool) (w : Bool) (rn : Reg) (rd : Reg) (off : BitVec 8)
  /-- LDRSB, format A5, rule R276 of 43_load_store.md. -/
  | ldrsbReg (cond : Cond) (p : Bool) (u : Bool) (w : Bool) (rn : Reg) (rd : Reg) (rm : Reg)
  /-- LDRSB, format A6, rule R276 of 43_load_store.md. -/
  | ldrsbImm (cond : Cond) (p : Bool) (u : Bool) (w : Bool) (rn : Reg) (rd : Reg) (off : BitVec 8)
  /-- LDRSH, format A5, rule R277 of 43_load_store.md. -/
  | ldrshReg (cond : Cond) (p : Bool) (u : Bool) (w : Bool) (rn : Reg) (rd : Reg) (rm : Reg)
  /-- LDRSH, format A6, rule R277 of 43_load_store.md. -/
  | ldrshImm (cond : Cond) (p : Bool) (u : Bool) (w : Bool) (rn : Reg) (rd : Reg) (off : BitVec 8)
  /-- MRS, format A7, rule R203 of 40_data_processing.md. -/
  | mrs (cond : Cond) (r : Bool) (rd : Reg)
  /-- MSR, format A8, rule R204 of 40_data_processing.md. -/
  | msrReg (cond : Cond) (r : Bool) (mask : BitVec 4) (rm : Reg)
  /-- MSR, format A9, rule R204 of 40_data_processing.md. -/
  | msrImm (cond : Cond) (r : Bool) (mask : BitVec 4) (rot : BitVec 4) (imm : BitVec 8)
  /-- AND, format A10, rule R180 of 40_data_processing.md. -/
  | andImm (cond : Cond) (s : Bool) (rn : Reg) (rd : Reg) (rot : BitVec 4) (imm : BitVec 8)
  /-- AND, format A11, rule R180 of 40_data_processing.md. -/
  | andShi (cond : Cond) (s : Bool) (rn : Reg) (rd : Reg) (shamt : BitVec 5) (sh : ShiftType) (rm : Reg)
  /-- AND, format A12, rule R180 of 40_data_processing.md. -/
  | andShr (cond : Cond) (s : Bool) (rn : Reg) (rd : Reg) (rs : Reg) (sh : ShiftType) (rm : Reg)
  /-- EOR, format A10, rule R181 of 40_data_processing.md. -/
  | eorImm (cond : Cond) (s : Bool) (rn : Reg) (rd : Reg) (rot : BitVec 4) (imm : BitVec 8)
  /-- EOR, format A11, rule R181 of 40_data_processing.md. -/
  | eorShi (cond : Cond) (s : Bool) (rn : Reg) (rd : Reg) (shamt : BitVec 5) (sh : ShiftType) (rm : Reg)
  /-- EOR, format A12, rule R181 of 40_data_processing.md. -/
  | eorShr (cond : Cond) (s : Bool) (rn : Reg) (rd : Reg) (rs : Reg) (sh : ShiftType) (rm : Reg)
  /-- SUB, format A10, rule R182 of 40_data_processing.md. -/
  | subImm (cond : Cond) (s : Bool) (rn : Reg) (rd : Reg) (rot : BitVec 4) (imm : BitVec 8)
  /-- SUB, format A11, rule R182 of 40_data_processing.md. -/
  | subShi (cond : Cond) (s : Bool) (rn : Reg) (rd : Reg) (shamt : BitVec 5) (sh : ShiftType) (rm : Reg)
  /-- SUB, format A12, rule R182 of 40_data_processing.md. -/
  | subShr (cond : Cond) (s : Bool) (rn : Reg) (rd : Reg) (rs : Reg) (sh : ShiftType) (rm : Reg)
  /-- RSB, format A10, rule R183 of 40_data_processing.md. -/
  | rsbImm (cond : Cond) (s : Bool) (rn : Reg) (rd : Reg) (rot : BitVec 4) (imm : BitVec 8)
  /-- RSB, format A11, rule R183 of 40_data_processing.md. -/
  | rsbShi (cond : Cond) (s : Bool) (rn : Reg) (rd : Reg) (shamt : BitVec 5) (sh : ShiftType) (rm : Reg)
  /-- RSB, format A12, rule R183 of 40_data_processing.md. -/
  | rsbShr (cond : Cond) (s : Bool) (rn : Reg) (rd : Reg) (rs : Reg) (sh : ShiftType) (rm : Reg)
  /-- ADD, format A10, rule R184 of 40_data_processing.md. -/
  | addImm (cond : Cond) (s : Bool) (rn : Reg) (rd : Reg) (rot : BitVec 4) (imm : BitVec 8)
  /-- ADD, format A11, rule R184 of 40_data_processing.md. -/
  | addShi (cond : Cond) (s : Bool) (rn : Reg) (rd : Reg) (shamt : BitVec 5) (sh : ShiftType) (rm : Reg)
  /-- ADD, format A12, rule R184 of 40_data_processing.md. -/
  | addShr (cond : Cond) (s : Bool) (rn : Reg) (rd : Reg) (rs : Reg) (sh : ShiftType) (rm : Reg)
  /-- ADC, format A10, rule R185 of 40_data_processing.md. -/
  | adcImm (cond : Cond) (s : Bool) (rn : Reg) (rd : Reg) (rot : BitVec 4) (imm : BitVec 8)
  /-- ADC, format A11, rule R185 of 40_data_processing.md. -/
  | adcShi (cond : Cond) (s : Bool) (rn : Reg) (rd : Reg) (shamt : BitVec 5) (sh : ShiftType) (rm : Reg)
  /-- ADC, format A12, rule R185 of 40_data_processing.md. -/
  | adcShr (cond : Cond) (s : Bool) (rn : Reg) (rd : Reg) (rs : Reg) (sh : ShiftType) (rm : Reg)
  /-- SBC, format A10, rule R186 of 40_data_processing.md. -/
  | sbcImm (cond : Cond) (s : Bool) (rn : Reg) (rd : Reg) (rot : BitVec 4) (imm : BitVec 8)
  /-- SBC, format A11, rule R186 of 40_data_processing.md. -/
  | sbcShi (cond : Cond) (s : Bool) (rn : Reg) (rd : Reg) (shamt : BitVec 5) (sh : ShiftType) (rm : Reg)
  /-- SBC, format A12, rule R186 of 40_data_processing.md. -/
  | sbcShr (cond : Cond) (s : Bool) (rn : Reg) (rd : Reg) (rs : Reg) (sh : ShiftType) (rm : Reg)
  /-- RSC, format A10, rule R187 of 40_data_processing.md. -/
  | rscImm (cond : Cond) (s : Bool) (rn : Reg) (rd : Reg) (rot : BitVec 4) (imm : BitVec 8)
  /-- RSC, format A11, rule R187 of 40_data_processing.md. -/
  | rscShi (cond : Cond) (s : Bool) (rn : Reg) (rd : Reg) (shamt : BitVec 5) (sh : ShiftType) (rm : Reg)
  /-- RSC, format A12, rule R187 of 40_data_processing.md. -/
  | rscShr (cond : Cond) (s : Bool) (rn : Reg) (rd : Reg) (rs : Reg) (sh : ShiftType) (rm : Reg)
  /-- TST, format A10, rule R188 of 40_data_processing.md. -/
  | tstImm (cond : Cond) (rn : Reg) (rd : Reg) (rot : BitVec 4) (imm : BitVec 8)
  /-- TST, format A11, rule R188 of 40_data_processing.md. -/
  | tstShi (cond : Cond) (rn : Reg) (rd : Reg) (shamt : BitVec 5) (sh : ShiftType) (rm : Reg)
  /-- TST, format A12, rule R188 of 40_data_processing.md. -/
  | tstShr (cond : Cond) (rn : Reg) (rd : Reg) (rs : Reg) (sh : ShiftType) (rm : Reg)
  /-- TEQ, format A10, rule R189 of 40_data_processing.md. -/
  | teqImm (cond : Cond) (rn : Reg) (rd : Reg) (rot : BitVec 4) (imm : BitVec 8)
  /-- TEQ, format A11, rule R189 of 40_data_processing.md. -/
  | teqShi (cond : Cond) (rn : Reg) (rd : Reg) (shamt : BitVec 5) (sh : ShiftType) (rm : Reg)
  /-- TEQ, format A12, rule R189 of 40_data_processing.md. -/
  | teqShr (cond : Cond) (rn : Reg) (rd : Reg) (rs : Reg) (sh : ShiftType) (rm : Reg)
  /-- CMP, format A10, rule R190 of 40_data_processing.md. -/
  | cmpImm (cond : Cond) (rn : Reg) (rd : Reg) (rot : BitVec 4) (imm : BitVec 8)
  /-- CMP, format A11, rule R190 of 40_data_processing.md. -/
  | cmpShi (cond : Cond) (rn : Reg) (rd : Reg) (shamt : BitVec 5) (sh : ShiftType) (rm : Reg)
  /-- CMP, format A12, rule R190 of 40_data_processing.md. -/
  | cmpShr (cond : Cond) (rn : Reg) (rd : Reg) (rs : Reg) (sh : ShiftType) (rm : Reg)
  /-- CMN, format A10, rule R191 of 40_data_processing.md. -/
  | cmnImm (cond : Cond) (rn : Reg) (rd : Reg) (rot : BitVec 4) (imm : BitVec 8)
  /-- CMN, format A11, rule R191 of 40_data_processing.md. -/
  | cmnShi (cond : Cond) (rn : Reg) (rd : Reg) (shamt : BitVec 5) (sh : ShiftType) (rm : Reg)
  /-- CMN, format A12, rule R191 of 40_data_processing.md. -/
  | cmnShr (cond : Cond) (rn : Reg) (rd : Reg) (rs : Reg) (sh : ShiftType) (rm : Reg)
  /-- ORR, format A10, rule R192 of 40_data_processing.md. -/
  | orrImm (cond : Cond) (s : Bool) (rn : Reg) (rd : Reg) (rot : BitVec 4) (imm : BitVec 8)
  /-- ORR, format A11, rule R192 of 40_data_processing.md. -/
  | orrShi (cond : Cond) (s : Bool) (rn : Reg) (rd : Reg) (shamt : BitVec 5) (sh : ShiftType) (rm : Reg)
  /-- ORR, format A12, rule R192 of 40_data_processing.md. -/
  | orrShr (cond : Cond) (s : Bool) (rn : Reg) (rd : Reg) (rs : Reg) (sh : ShiftType) (rm : Reg)
  /-- MOV, format A10, rule R193 of 40_data_processing.md. -/
  | movImm (cond : Cond) (s : Bool) (rn : Reg) (rd : Reg) (rot : BitVec 4) (imm : BitVec 8)
  /-- MOV, format A11, rule R193 of 40_data_processing.md. -/
  | movShi (cond : Cond) (s : Bool) (rn : Reg) (rd : Reg) (shamt : BitVec 5) (sh : ShiftType) (rm : Reg)
  /-- MOV, format A12, rule R193 of 40_data_processing.md. -/
  | movShr (cond : Cond) (s : Bool) (rn : Reg) (rd : Reg) (rs : Reg) (sh : ShiftType) (rm : Reg)
  /-- BIC, format A10, rule R194 of 40_data_processing.md. -/
  | bicImm (cond : Cond) (s : Bool) (rn : Reg) (rd : Reg) (rot : BitVec 4) (imm : BitVec 8)
  /-- BIC, format A11, rule R194 of 40_data_processing.md. -/
  | bicShi (cond : Cond) (s : Bool) (rn : Reg) (rd : Reg) (shamt : BitVec 5) (sh : ShiftType) (rm : Reg)
  /-- BIC, format A12, rule R194 of 40_data_processing.md. -/
  | bicShr (cond : Cond) (s : Bool) (rn : Reg) (rd : Reg) (rs : Reg) (sh : ShiftType) (rm : Reg)
  /-- MVN, format A10, rule R195 of 40_data_processing.md. -/
  | mvnImm (cond : Cond) (s : Bool) (rn : Reg) (rd : Reg) (rot : BitVec 4) (imm : BitVec 8)
  /-- MVN, format A11, rule R195 of 40_data_processing.md. -/
  | mvnShi (cond : Cond) (s : Bool) (rn : Reg) (rd : Reg) (shamt : BitVec 5) (sh : ShiftType) (rm : Reg)
  /-- MVN, format A12, rule R195 of 40_data_processing.md. -/
  | mvnShr (cond : Cond) (s : Bool) (rn : Reg) (rd : Reg) (rs : Reg) (sh : ShiftType) (rm : Reg)
  /-- LDR, format A13, rule R263 of 43_load_store.md. -/
  | ldrImm (cond : Cond) (u : Bool) (w : Bool) (rn : Reg) (rd : Reg) (off : BitVec 12)
  /-- LDR, format A13, rule R263 of 43_load_store.md. -/
  | ldrImmPost (cond : Cond) (u : Bool) (rn : Reg) (rd : Reg) (off : BitVec 12)
  /-- LDR, format A14, rule R263 of 43_load_store.md. -/
  | ldrReg (cond : Cond) (u : Bool) (w : Bool) (rn : Reg) (rd : Reg) (shamt : BitVec 5) (sh : ShiftType) (rm : Reg)
  /-- LDR, format A14, rule R263 of 43_load_store.md. -/
  | ldrRegPost (cond : Cond) (u : Bool) (rn : Reg) (rd : Reg) (shamt : BitVec 5) (sh : ShiftType) (rm : Reg)
  /-- LDRB, format A13, rule R264 of 43_load_store.md. -/
  | ldrbImm (cond : Cond) (u : Bool) (w : Bool) (rn : Reg) (rd : Reg) (off : BitVec 12)
  /-- LDRB, format A13, rule R264 of 43_load_store.md. -/
  | ldrbImmPost (cond : Cond) (u : Bool) (rn : Reg) (rd : Reg) (off : BitVec 12)
  /-- LDRB, format A14, rule R264 of 43_load_store.md. -/
  | ldrbReg (cond : Cond) (u : Bool) (w : Bool) (rn : Reg) (rd : Reg) (shamt : BitVec 5) (sh : ShiftType) (rm : Reg)
  /-- LDRB, format A14, rule R264 of 43_load_store.md. -/
  | ldrbRegPost (cond : Cond) (u : Bool) (rn : Reg) (rd : Reg) (shamt : BitVec 5) (sh : ShiftType) (rm : Reg)
  /-- STR, format A13, rule R267 of 43_load_store.md. -/
  | strImm (cond : Cond) (u : Bool) (w : Bool) (rn : Reg) (rd : Reg) (off : BitVec 12)
  /-- STR, format A13, rule R267 of 43_load_store.md. -/
  | strImmPost (cond : Cond) (u : Bool) (rn : Reg) (rd : Reg) (off : BitVec 12)
  /-- STR, format A14, rule R267 of 43_load_store.md. -/
  | strReg (cond : Cond) (u : Bool) (w : Bool) (rn : Reg) (rd : Reg) (shamt : BitVec 5) (sh : ShiftType) (rm : Reg)
  /-- STR, format A14, rule R267 of 43_load_store.md. -/
  | strRegPost (cond : Cond) (u : Bool) (rn : Reg) (rd : Reg) (shamt : BitVec 5) (sh : ShiftType) (rm : Reg)
  /-- STRB, format A13, rule R268 of 43_load_store.md. -/
  | strbImm (cond : Cond) (u : Bool) (w : Bool) (rn : Reg) (rd : Reg) (off : BitVec 12)
  /-- STRB, format A13, rule R268 of 43_load_store.md. -/
  | strbImmPost (cond : Cond) (u : Bool) (rn : Reg) (rd : Reg) (off : BitVec 12)
  /-- STRB, format A14, rule R268 of 43_load_store.md. -/
  | strbReg (cond : Cond) (u : Bool) (w : Bool) (rn : Reg) (rd : Reg) (shamt : BitVec 5) (sh : ShiftType) (rm : Reg)
  /-- STRB, format A14, rule R268 of 43_load_store.md. -/
  | strbRegPost (cond : Cond) (u : Bool) (rn : Reg) (rd : Reg) (shamt : BitVec 5) (sh : ShiftType) (rm : Reg)
  /-- LDRT, format A13, rule R271 of 43_load_store.md. -/
  | ldrtImm (cond : Cond) (u : Bool) (rn : Reg) (rd : Reg) (off : BitVec 12)
  /-- LDRT, format A14, rule R271 of 43_load_store.md. -/
  | ldrtReg (cond : Cond) (u : Bool) (rn : Reg) (rd : Reg) (shamt : BitVec 5) (sh : ShiftType) (rm : Reg)
  /-- LDRBT, format A13, rule R272 of 43_load_store.md. -/
  | ldrbtImm (cond : Cond) (u : Bool) (rn : Reg) (rd : Reg) (off : BitVec 12)
  /-- LDRBT, format A14, rule R272 of 43_load_store.md. -/
  | ldrbtReg (cond : Cond) (u : Bool) (rn : Reg) (rd : Reg) (shamt : BitVec 5) (sh : ShiftType) (rm : Reg)
  /-- STRT, format A13, rule R273 of 43_load_store.md. -/
  | strtImm (cond : Cond) (u : Bool) (rn : Reg) (rd : Reg) (off : BitVec 12)
  /-- STRT, format A14, rule R273 of 43_load_store.md. -/
  | strtReg (cond : Cond) (u : Bool) (rn : Reg) (rd : Reg) (shamt : BitVec 5) (sh : ShiftType) (rm : Reg)
  /-- STRBT, format A13, rule R274 of 43_load_store.md. -/
  | strbtImm (cond : Cond) (u : Bool) (rn : Reg) (rd : Reg) (off : BitVec 12)
  /-- STRBT, format A14, rule R274 of 43_load_store.md. -/
  | strbtReg (cond : Cond) (u : Bool) (rn : Reg) (rd : Reg) (shamt : BitVec 5) (sh : ShiftType) (rm : Reg)
  /-- UNDEFINED, format A15, rule R360 of 47_swi_undefined.md. -/
  | undefined (cond : Cond) (hi : BitVec 20) (lo : BitVec 4)
  /-- LDMIA, format A16, rule R305 of 44_block_transfer.md. -/
  | ldmia (cond : Cond) (s : Bool) (w : Bool) (rn : Reg) (list : BitVec 16)
  /-- LDMIB, format A16, rule R306 of 44_block_transfer.md. -/
  | ldmib (cond : Cond) (s : Bool) (w : Bool) (rn : Reg) (list : BitVec 16)
  /-- LDMDA, format A16, rule R307 of 44_block_transfer.md. -/
  | ldmda (cond : Cond) (s : Bool) (w : Bool) (rn : Reg) (list : BitVec 16)
  /-- LDMDB, format A16, rule R308 of 44_block_transfer.md. -/
  | ldmdb (cond : Cond) (s : Bool) (w : Bool) (rn : Reg) (list : BitVec 16)
  /-- STMIA, format A16, rule R309 of 44_block_transfer.md. -/
  | stmia (cond : Cond) (s : Bool) (w : Bool) (rn : Reg) (list : BitVec 16)
  /-- STMIB, format A16, rule R310 of 44_block_transfer.md. -/
  | stmib (cond : Cond) (s : Bool) (w : Bool) (rn : Reg) (list : BitVec 16)
  /-- STMDA, format A16, rule R311 of 44_block_transfer.md. -/
  | stmda (cond : Cond) (s : Bool) (w : Bool) (rn : Reg) (list : BitVec 16)
  /-- STMDB, format A16, rule R312 of 44_block_transfer.md. -/
  | stmdb (cond : Cond) (s : Bool) (w : Bool) (rn : Reg) (list : BitVec 16)
  /-- B, format A17, rule R241 of 42_branch.md. -/
  | b (cond : Cond) (off : BitVec 24)
  /-- BL, format A17, rule R242 of 42_branch.md. -/
  | bl (cond : Cond) (off : BitVec 24)
  /-- LDC, format A18, rule R333 of 46_coprocessor.md. -/
  | ldc (cond : Cond) (p : Bool) (u : Bool) (n : Bool) (w : Bool) (rn : Reg) (crd : BitVec 4) (cpnum : BitVec 4) (off : BitVec 8)
  /-- STC, format A18, rule R334 of 46_coprocessor.md. -/
  | stc (cond : Cond) (p : Bool) (u : Bool) (n : Bool) (w : Bool) (rn : Reg) (crd : BitVec 4) (cpnum : BitVec 4) (off : BitVec 8)
  /-- CDP, format A19, rule R330 of 46_coprocessor.md. -/
  | cdp (cond : Cond) (op1 : BitVec 4) (crn : BitVec 4) (crd : BitVec 4) (cpnum : BitVec 4) (op2 : BitVec 3) (crm : BitVec 4)
  /-- MCR, format A20, rule R331 of 46_coprocessor.md. -/
  | mcr (cond : Cond) (op1 : BitVec 3) (crn : BitVec 4) (rd : Reg) (cpnum : BitVec 4) (op2 : BitVec 3) (crm : BitVec 4)
  /-- MRC, format A20, rule R332 of 46_coprocessor.md. -/
  | mrc (cond : Cond) (op1 : BitVec 3) (crn : BitVec 4) (rd : Reg) (cpnum : BitVec 4) (op2 : BitVec 3) (crm : BitVec 4)
  /-- SWI, format A21, rule R355 of 47_swi_undefined.md. -/
  | swi (cond : Cond) (imm : BitVec 24)
  /-- LSL, format T1, rule R368 of 48_thumb_alu.md. -/
  | tLslImm (rd : LReg) (rs : LReg) (amount : BitVec 5)
  /-- LSR, format T1, rule R369 of 48_thumb_alu.md. -/
  | tLsrImm (rd : LReg) (rs : LReg) (amount : BitVec 5)
  /-- ASR, format T1, rule R370 of 48_thumb_alu.md. -/
  | tAsrImm (rd : LReg) (rs : LReg) (amount : BitVec 5)
  /-- ADD, format T2, rule R371 of 48_thumb_alu.md. -/
  | tAddReg (rd : LReg) (rs : LReg) (rn : LReg)
  /-- SUB, format T2, rule R372 of 48_thumb_alu.md. -/
  | tSubReg (rd : LReg) (rs : LReg) (rn : LReg)
  /-- ADD, format T2, rule R373 of 48_thumb_alu.md. -/
  | tAddImm3 (rd : LReg) (rs : LReg) (imm : BitVec 3)
  /-- SUB, format T2, rule R374 of 48_thumb_alu.md. -/
  | tSubImm3 (rd : LReg) (rs : LReg) (imm : BitVec 3)
  /-- MOV, format T3, rule R375 of 48_thumb_alu.md. -/
  | tMovImm (rd : LReg) (imm : BitVec 8)
  /-- CMP, format T3, rule R376 of 48_thumb_alu.md. -/
  | tCmpImm (rd : LReg) (imm : BitVec 8)
  /-- ADD, format T3, rule R377 of 48_thumb_alu.md. -/
  | tAddImm8 (rd : LReg) (imm : BitVec 8)
  /-- SUB, format T3, rule R378 of 48_thumb_alu.md. -/
  | tSubImm8 (rd : LReg) (imm : BitVec 8)
  /-- AND, format T4, rule R380 of 48_thumb_alu.md. -/
  | tAnd (rd : LReg) (rs : LReg)
  /-- EOR, format T4, rule R381 of 48_thumb_alu.md. -/
  | tEor (rd : LReg) (rs : LReg)
  /-- LSL, format T4, rule R382 of 48_thumb_alu.md. -/
  | tLslReg (rd : LReg) (rs : LReg)
  /-- LSR, format T4, rule R383 of 48_thumb_alu.md. -/
  | tLsrReg (rd : LReg) (rs : LReg)
  /-- ASR, format T4, rule R384 of 48_thumb_alu.md. -/
  | tAsrReg (rd : LReg) (rs : LReg)
  /-- ADC, format T4, rule R385 of 48_thumb_alu.md. -/
  | tAdc (rd : LReg) (rs : LReg)
  /-- SBC, format T4, rule R386 of 48_thumb_alu.md. -/
  | tSbc (rd : LReg) (rs : LReg)
  /-- ROR, format T4, rule R387 of 48_thumb_alu.md. -/
  | tRorReg (rd : LReg) (rs : LReg)
  /-- TST, format T4, rule R388 of 48_thumb_alu.md. -/
  | tTst (rd : LReg) (rs : LReg)
  /-- NEG, format T4, rule R389 of 48_thumb_alu.md. -/
  | tNeg (rd : LReg) (rs : LReg)
  /-- CMP, format T4, rule R390 of 48_thumb_alu.md. -/
  | tCmpReg (rd : LReg) (rs : LReg)
  /-- CMN, format T4, rule R391 of 48_thumb_alu.md. -/
  | tCmn (rd : LReg) (rs : LReg)
  /-- ORR, format T4, rule R392 of 48_thumb_alu.md. -/
  | tOrr (rd : LReg) (rs : LReg)
  /-- MUL, format T4, rule R393 of 48_thumb_alu.md. -/
  | tMul (rd : LReg) (rs : LReg)
  /-- BIC, format T4, rule R394 of 48_thumb_alu.md. -/
  | tBic (rd : LReg) (rs : LReg)
  /-- MVN, format T4, rule R395 of 48_thumb_alu.md. -/
  | tMvn (rd : LReg) (rs : LReg)
  /-- ADD, format T5, rule R396 of 48_thumb_alu.md. -/
  | tAddHi (rd : Reg) (rs : Reg)
  /-- CMP, format T5, rule R397 of 48_thumb_alu.md. -/
  | tCmpHi (rd : Reg) (rs : Reg)
  /-- MOV, format T5, rule R398 of 48_thumb_alu.md. -/
  | tMovHi (rd : Reg) (rs : Reg)
  /-- BX, format T5, rule R399 of 48_thumb_alu.md. -/
  | tBx (rs : Reg)
  /-- LDR, format T6, rule R427 of 49_thumb_mem_branch.md. -/
  | tLdrPc (rd : LReg) (off : BitVec 8)
  /-- STR, format T7, rule R428 of 49_thumb_mem_branch.md. -/
  | tStrReg (rd : LReg) (rb : LReg) (ro : LReg)
  /-- STRH, format T8, rule R432 of 49_thumb_mem_branch.md. -/
  | tStrhReg (rd : LReg) (rb : LReg) (ro : LReg)
  /-- STRB, format T7, rule R429 of 49_thumb_mem_branch.md. -/
  | tStrbReg (rd : LReg) (rb : LReg) (ro : LReg)
  /-- LDRSB, format T8, rule R434 of 49_thumb_mem_branch.md. -/
  | tLdrsbReg (rd : LReg) (rb : LReg) (ro : LReg)
  /-- LDR, format T7, rule R430 of 49_thumb_mem_branch.md. -/
  | tLdrReg (rd : LReg) (rb : LReg) (ro : LReg)
  /-- LDRH, format T8, rule R433 of 49_thumb_mem_branch.md. -/
  | tLdrhReg (rd : LReg) (rb : LReg) (ro : LReg)
  /-- LDRB, format T7, rule R431 of 49_thumb_mem_branch.md. -/
  | tLdrbReg (rd : LReg) (rb : LReg) (ro : LReg)
  /-- LDRSH, format T8, rule R435 of 49_thumb_mem_branch.md. -/
  | tLdrshReg (rd : LReg) (rb : LReg) (ro : LReg)
  /-- STR, format T9, rule R436 of 49_thumb_mem_branch.md. -/
  | tStrImm (rd : LReg) (rb : LReg) (off : BitVec 5)
  /-- LDR, format T9, rule R437 of 49_thumb_mem_branch.md. -/
  | tLdrImm (rd : LReg) (rb : LReg) (off : BitVec 5)
  /-- STRB, format T9, rule R438 of 49_thumb_mem_branch.md. -/
  | tStrbImm (rd : LReg) (rb : LReg) (off : BitVec 5)
  /-- LDRB, format T9, rule R439 of 49_thumb_mem_branch.md. -/
  | tLdrbImm (rd : LReg) (rb : LReg) (off : BitVec 5)
  /-- STRH, format T10, rule R442 of 49_thumb_mem_branch.md. -/
  | tStrhImm (rd : LReg) (rb : LReg) (off : BitVec 5)
  /-- LDRH, format T10, rule R443 of 49_thumb_mem_branch.md. -/
  | tLdrhImm (rd : LReg) (rb : LReg) (off : BitVec 5)
  /-- STR, format T11, rule R450 of 49_thumb_mem_branch.md. -/
  | tStrSp (rd : LReg) (off : BitVec 8)
  /-- LDR, format T11, rule R451 of 49_thumb_mem_branch.md. -/
  | tLdrSp (rd : LReg) (off : BitVec 8)
  /-- ADD, format T12, rule R404 of 48_thumb_alu.md. -/
  | tAddPc (rd : LReg) (off : BitVec 8)
  /-- ADD, format T12, rule R405 of 48_thumb_alu.md. -/
  | tAddSp (rd : LReg) (off : BitVec 8)
  /-- ADD, format T13, rule R406 of 48_thumb_alu.md. -/
  | tIncSp (off : BitVec 7)
  /-- ADD, format T13, rule R407 of 48_thumb_alu.md. -/
  | tDecSp (off : BitVec 7)
  /-- PUSH, format T14, rule R440 of 49_thumb_mem_branch.md. -/
  | tPush (r : Bool) (list : BitVec 8)
  /-- POP, format T14, rule R441 of 49_thumb_mem_branch.md. -/
  | tPop (r : Bool) (list : BitVec 8)
  /-- STMIA, format T15, rule R444 of 49_thumb_mem_branch.md. -/
  | tStmia (rb : LReg) (list : BitVec 8)
  /-- LDMIA, format T15, rule R445 of 49_thumb_mem_branch.md. -/
  | tLdmia (rb : LReg) (list : BitVec 8)
  /-- BEQ, format T16, rule R456 of 49_thumb_mem_branch.md. -/
  | tBeq (off : BitVec 8)
  /-- BNE, format T16, rule R457 of 49_thumb_mem_branch.md. -/
  | tBne (off : BitVec 8)
  /-- BCS, format T16, rule R458 of 49_thumb_mem_branch.md. -/
  | tBcs (off : BitVec 8)
  /-- BCC, format T16, rule R459 of 49_thumb_mem_branch.md. -/
  | tBcc (off : BitVec 8)
  /-- BMI, format T16, rule R460 of 49_thumb_mem_branch.md. -/
  | tBmi (off : BitVec 8)
  /-- BPL, format T16, rule R461 of 49_thumb_mem_branch.md. -/
  | tBpl (off : BitVec 8)
  /-- BVS, format T16, rule R462 of 49_thumb_mem_branch.md. -/
  | tBvs (off : BitVec 8)
  /-- BVC, format T16, rule R463 of 49_thumb_mem_branch.md. -/
  | tBvc (off : BitVec 8)
  /-- BHI, format T16, rule R464 of 49_thumb_mem_branch.md. -/
  | tBhi (off : BitVec 8)
  /-- BLS, format T16, rule R465 of 49_thumb_mem_branch.md. -/
  | tBls (off : BitVec 8)
  /-- BGE, format T16, rule R466 of 49_thumb_mem_branch.md. -/
  | tBge (off : BitVec 8)
  /-- BLT, format T16, rule R467 of 49_thumb_mem_branch.md. -/
  | tBlt (off : BitVec 8)
  /-- BGT, format T16, rule R468 of 49_thumb_mem_branch.md. -/
  | tBgt (off : BitVec 8)
  /-- BLE, format T16, rule R469 of 49_thumb_mem_branch.md. -/
  | tBle (off : BitVec 8)
  /-- UNDEFINED, format T16, rule R471 of 49_thumb_mem_branch.md. -/
  | tUndefined (imm : BitVec 8)
  /-- SWI, format T17, rule R470 of 49_thumb_mem_branch.md. -/
  | tSwi (imm : BitVec 8)
  /-- B, format T18, rule R472 of 49_thumb_mem_branch.md. -/
  | tB (off : BitVec 11)
  /-- BL, format T19, rule R473 of 49_thumb_mem_branch.md. -/
  | tBlHi (off : BitVec 11)
  /-- BL, format T19, rule R474 of 49_thumb_mem_branch.md. -/
  | tBlLo (off : BitVec 11)
  deriving DecidableEq, Repr

end Sys2Proof
end

