-- ==== Sys2Proof/Machine/State.lean ====
section
/-! DEFINITION. The state of the machine as plain data, everything INVENTORY.md lists under '## State'; the reasons for which
a step stops; the machine right after reset. -/

namespace Sys2Proof.Machine

/-- The seven operating modes, rule R21 of 10_state.md. -/
inductive Mode where
  | usr | fiq | irq | svc | abt | und | sys
  deriving DecidableEq, Repr

/-- The names of the 30 physical general registers other than r15, rule R22 of 10_state.md. -/
inductive PhysReg where
  | r0 | r1 | r2 | r3 | r4 | r5 | r6 | r7 | r8 | r9 | r10 | r11 | r12 | r8Fiq | r9Fiq | r10Fiq | r11Fiq | r12Fiq | r13 | r14 | r13Fiq | r14Fiq | r13Irq | r14Irq | r13Svc | r14Svc | r13Abt | r14Abt | r13Und | r14Und
  deriving DecidableEq, Repr

/-- The contents of the 30 physical general registers other than r15, rule R22 of 10_state.md. -/
structure RegFile where
  r0 : Word
  r1 : Word
  r2 : Word
  r3 : Word
  r4 : Word
  r5 : Word
  r6 : Word
  r7 : Word
  r8 : Word
  r9 : Word
  r10 : Word
  r11 : Word
  r12 : Word
  r8Fiq : Word
  r9Fiq : Word
  r10Fiq : Word
  r11Fiq : Word
  r12Fiq : Word
  r13 : Word
  r14 : Word
  r13Fiq : Word
  r14Fiq : Word
  r13Irq : Word
  r14Irq : Word
  r13Svc : Word
  r14Svc : Word
  r13Abt : Word
  r14Abt : Word
  r13Und : Word
  r14Und : Word
  deriving DecidableEq, Repr

/-- A program status register field by field, rule R37 of 10_state.md: flags (bits 31 to 28), reserved bits [27:8], I (7),
F (6), T (5) and M (bits [4:0]). -/
structure Psr where
  n : Bool
  z : Bool
  c : Bool
  v : Bool
  reserved : BitVec 20
  i : Bool
  f : Bool
  t : Bool
  m : BitVec 5
  deriving DecidableEq, Repr

/-- The five saved program status registers, rule R36 of 10_state.md. -/
structure SpsrFile where
  fiq : Psr
  irq : Psr
  svc : Psr
  abt : Psr
  und : Psr
  deriving DecidableEq, Repr

/-- The reserved bits [27:8] that MRS last read from each status register, none where it has read none since reset: what a
write is held to by rule R42 of 10_state.md and decision D13. -/
structure PsrReads where
  cpsr : Option (BitVec 20)
  fiq : Option (BitVec 20)
  irq : Option (BitVec 20)
  svc : Option (BitVec 20)
  abt : Option (BitVec 20)
  und : Option (BitVec 20)
  deriving DecidableEq, Repr

/-- Memory: the bytes that differ from what an unlisted byte reads as, addresses strictly rising (rule R70 of
20_memory.md; the canonical form is `Memory.wf`). -/
abbrev Memory := List Host.Cell

/-- The size of a bus access, MAS[1:0] of rule R72 of 20_memory.md. -/
inductive Size where
  | byte | half | word
  deriving DecidableEq, Repr

/-- The kinds of access an abort rule can name: direction and nOPC of rule R72 of 20_memory.md. -/
inductive AccessKind where
  | read | write | fetch
  deriving DecidableEq, Repr

/-- One bus access of the core with the attributes of rule R72 of 20_memory.md, the data lanes as driven (rule R75), whether
ABORT answered it, and the level of the output DBGACK meanwhile (rule R561 (h) of 61_debug.md). -/
structure BusAccess where
  addr : Word
  size : Size
  kind : AccessKind
  priv : Bool
  lock : Bool
  thumb : Bool
  mode : BitVec 5
  data : Word
  aborted : Bool
  device : Bool
  dbgack : Bool
  deriving DecidableEq, Repr

/-- A set of accesses: the accesses to addresses `lo` to `hi` of the listed sizes, kinds and privileges. The abort
predicate of rule R83 of 20_memory.md and the BREAKPT predicate of rule R560 of 61_debug.md are lists of these. -/
structure AccessRule where
  lo : Nat
  hi : Nat
  sizes : List Size
  kinds : List AccessKind
  privs : List Bool
  deriving DecidableEq, Repr

/-- What a region of the memory map is, rule R92 of 20_memory.md. -/
inductive RegionKind where
  | storage | readOnly | device
  deriving DecidableEq, Repr

/-- A region of the memory map, addresses `lo` to `hi`, rule R92 of 20_memory.md. -/
structure Region where
  lo : Nat
  hi : Nat
  kind : RegionKind
  deriving DecidableEq, Repr

/-- The five coprocessor instructions, rule R325 of 46_coprocessor.md. -/
inductive CopKind where
  | cdp | ldc | stc | mcr | mrc
  deriving DecidableEq, Repr

/-- A coprocessor instruction as it is offered, rule R326 of 46_coprocessor.md: the fields the core passes on, and the privilege
that nTRANS showed when the instruction was fetched (rules R328 and R545 of 60_exceptions.md). -/
structure CopOffer where
  kind : CopKind
  number : BitVec 4
  op1 : BitVec 4
  op2 : BitVec 3
  crn : BitVec 4
  crd : BitVec 4
  crm : BitVec 4
  long : Bool
  priv : Bool
  deriving DecidableEq, Repr

/-- Where a coprocessor takes a word from: a fixed word, or a word of its own bank. -/
inductive CopSource where
  | word (w : Word)
  | bank (k : Nat)
  deriving DecidableEq, Repr

/-- How a rule of a coprocessor answers, rule R326: absent, the invalid response, or present. -/
inductive CopResponse where
  | absent | invalid | present
  deriving DecidableEq, Repr

/-- One rule of a coprocessor, its `accepts` of rule R326 and its transfer functions of rules R330 to R334 as data: the own state
and the instructions and privileges it holds for (none: any value of the field); the response; the words it gives (one for MRC,
all for STC) and the words of its bank that take what it is sent (one for MCR, all for LDC), at least one each; the words of its
bank that change by themselves; the own state after the instruction, and after a transfer that aborted (rule R335). -/
structure CopRule where
  state : Nat
  kinds : List CopKind
  privs : List Bool
  op1 : Option (BitVec 4)
  op2 : Option (BitVec 3)
  crn : Option (BitVec 4)
  crd : Option (BitVec 4)
  crm : Option (BitVec 4)
  long : Option Bool
  response : CopResponse
  gives : CopSource
  givesMore : List CopSource
  takes : Nat
  takesMore : List Nat
  sets : List (Nat × CopSource)
  next : Nat
  nextAborted : Nat
  deriving DecidableEq, Repr

/-- What a coprocessor gives itself when nRESET goes LOW (rule R606 (h) of 70_reset_and_hazards.md): its own state, its bank, and its
coming busy-waits. -/
structure CopReset where
  state : Nat
  bank : List Word
  waits : List Nat
  deriving DecidableEq, Repr

/-- An attached coprocessor, the object of rule R326: its number, its own state and bank, for how many steps it busy-waits each of
the instructions it accepts next (0 where the list ends, rule R327), its rules, of which the first that holds counts, and what nRESET
makes of it. -/
structure CopPort where
  number : BitVec 4
  state : Nat
  bank : List Word
  waits : List Nat
  rules : List CopRule
  atReset : CopReset
  deriving DecidableEq, Repr

/-- What the attached coprocessors answer to an offered instruction, rule R326. -/
inductive CopAnswer where
  | absent | busy | invalid
  | present (r : CopRule)
  deriving DecidableEq, Repr

/-- What a coprocessor saw of an instruction it executed: the offer, the words transferred (of an LDC those before the first
abort, of an STC all it drove) and whether an access aborted (rule R335, log entry 25). -/
structure CopRequest where
  offer : CopOffer
  data : List Word
  aborted : Bool
  deriving DecidableEq, Repr

/-- The debug communications channel, rule R46 of 10_state.md: the flags W and R and the two data registers. -/
structure Dcc where
  w : Bool
  r : Bool
  dataWrite : Word
  dataRead : Word
  deriving DecidableEq, Repr

/-- A watchpoint unit, rules R50, R51 and R57 of 10_state.md. -/
structure Watch where
  addrValue : Word
  addrMask : Word
  dataValue : Word
  dataMask : Word
  ctlValue : BitVec 9
  ctlMask : BitVec 8
  chainOut : Bool
  deriving DecidableEq, Repr

/-- The EmbeddedICE registers, rules R47 to R50 of 10_state.md; `dbgrqSync` is control bit 1 after its latch (R48), `status` the
debug status register, which each TCK synchronises to the live signals (R49, log entry 44). -/
structure Ice where
  control : BitVec 3
  dbgrqSync : Bool
  status : BitVec 5
  w0 : Watch
  w1 : Watch
  deriving DecidableEq, Repr

/-- The output pins RANGEOUT0 and RANGEOUT1 in one bus cycle, rule R557 of 61_debug.md. -/
structure RangeOut where
  unit0 : Bool
  unit1 : Bool
  deriving DecidableEq, Repr

/-- The sixteen states of the TAP controller, rule R570 of 61_debug.md. -/
inductive TapState where
  | testLogicReset | runTestIdle
  | selectDr | captureDr | shiftDr | exit1Dr | pauseDr | exit2Dr | updateDr
  | selectIr | captureIr | shiftIr | exit1Ir | pauseIr | exit2Ir | updateIr
  deriving DecidableEq, Repr

/-- The TAP registers, rule R52 of 10_state.md, and the serial output in the last TCK cycle (rule R570 of 61_debug.md): `tdo` is the
level of TDO, `tdoDriven` whether data was driven on it. -/
structure Tap where
  state : TapState
  ir : BitVec 4
  irShift : BitVec 4
  select : BitVec 4
  selectShift : BitVec 4
  bypass : Bool
  idShift : Word
  chain0 : BitVec 105
  chain1 : BitVec 33
  chain2 : BitVec 38
  tdo : Bool
  tdoDriven : Bool
  deriving DecidableEq, Repr

/-- A word scanned into the core's pipeline in debug state and its BREAKPT bit, rule R561 of 61_debug.md. -/
structure DbgSlot where
  word : Word
  mark : Bool
  deriving DecidableEq, Repr

/-- What the next core clock in debug state does besides fetching: nothing pending, a load that still takes `need` words, a
store that still drives words, an internal cycle (rule R561 of 61_debug.md). -/
inductive DbgPhase where
  | ready
  | loading (need : Nat) (got : List Word)
  | storing (left : List Word)
  | internal
  deriving DecidableEq, Repr

/-- Debug hidden state, rule R56 of 10_state.md: in debug state; the value of bit 33 still to be reported, none where the next
capture finds any value; a watchpoint raised by the instruction just finished; an exception entry made since that instruction
began; the scanned pipeline and the transfer in progress; the word on the data bus, none where it is any value (log entry 34);
the words fed to and taken from the core at debug speed. -/
structure Dbg where
  inDebug : Bool
  bit33 : Option Bool
  watchHit : Bool
  entered : Bool
  pipe : List DbgSlot
  phase : DbgPhase
  bus : Option Word
  feed : Option (List Word)
  captured : List Word
  deriving DecidableEq, Repr

/-- The input pins whose level lasts, rule R10 of 00_scope.md: nFIQ, nIRQ (active LOW), DBGRQ and EXTERN[1:0]. -/
structure Pins where
  nFiq : Bool
  nIrq : Bool
  dbgrq : Bool
  extern0 : Bool
  extern1 : Bool
  deriving DecidableEq, Repr

/-- What is done with a misaligned data access: the parameter `Misaligned` of decision D2. -/
inductive Misaligned where
  | refuse | armv4t
  deriving DecidableEq, Repr

/-- The identification code of rule R571 of 61_debug.md without its bit 0, which is 1 (Figure B-3, rule R52 of 10_state.md). -/
structure IdCode where
  version : BitVec 4
  part : BitVec 16
  manufacturer : BitVec 11
  deriving DecidableEq, Repr

/-- The parameters of 92_eei_decisions.md, "Parameters in one place", that are constant over a run. -/
structure Params where
  bigend : Bool
  misaligned : Misaligned
  pabtCondFromBus : Bool
  dbgen : Bool
  idcode : IdCode
  unmappedAborts : Bool
  deriving DecidableEq, Repr

/-- The environment of the core as data: pins, parameters, memory map, abort and BREAKPT predicates, the attached coprocessors,
the coming answers of devices (rules R7 to R10 of 00_scope.md). -/
structure Env where
  pins : Pins
  params : Params
  map : List Region
  aborts : List AccessRule
  extBreak : List AccessRule
  coprocs : List CopPort
  devIn : List Word
  deriving DecidableEq, Repr

/-- An event of the environment; a step takes the first one of the script (log entry 21). -/
inductive Event where
  /-- The core runs to its next instruction boundary. -/
  | run
  /-- The pins change. -/
  | pins (p : Pins)
  /-- The memory system changes: map, abort rules and BREAKPT rules (R83, R92, R560). -/
  | memory (map : List Region) (aborts extBreak : List AccessRule)
  /-- The attached coprocessors and the coming answers of devices change (R9, R87). -/
  | answers (coprocs : List CopPort) (devIn : List Word)
  /-- nRESET is LOW for the given number of clock cycles and then HIGH; `after` is the number of data accesses the
  abandoned instruction has made, if it had begun (R600, R601, decision D21). -/
  | reset (cycles : Nat) (after : Option Nat)
  /-- nTRST is pulsed LOW (R61). -/
  | nTrst
  /-- One TCK cycle with the given TMS and TDI (R570). -/
  | tck (tms tdi : Bool)
  deriving DecidableEq, Repr

/-- The machine. -/
structure State where
  /-- The banked general registers (R22). -/
  regs : RegFile
  /-- `cur`, the address of the instruction to execute (R30). -/
  pc : Word
  /-- The current program status register (R36). -/
  cpsr : Psr
  /-- The saved program status registers (R36). -/
  spsr : SpsrFile
  /-- The reserved bits last read from each status register (R42). -/
  psrRead : PsrReads
  /-- Memory (R70). -/
  mem : Memory
  /-- The debug communications channel (R46). -/
  dcc : Dcc
  /-- The EmbeddedICE registers (R47). -/
  ice : Ice
  /-- The TAP registers (R52). -/
  tap : Tap
  /-- Debug hidden state (R56). -/
  dbg : Dbg
  /-- The previous instruction was a User-bank LDM (R620). -/
  usrLdm : Bool
  /-- The coprocessor instruction in the Execute stage whose coprocessor is busy (R327 of 46_coprocessor.md). -/
  waiting : Option Instr
  /-- The instruction at `pc` was fetched with privilege (R98). -/
  fetchPriv : Bool
  /-- The instruction after it was fetched with privilege (R98). -/
  nextFetchPriv : Bool
  /-- How many free values have been drawn: the model's own field (log entry 8). -/
  free : Nat
  /-- The environment. -/
  env : Env
  /-- The bus accesses of the last instruction boundary or instruction (R72). -/
  bus : List BusAccess
  /-- The coprocessor instructions executed at the last step (R326). -/
  cop : List CopRequest
  /-- RANGEOUT0 and RANGEOUT1 in each bus cycle of the last step that the watchpoint units compared (R557 of 61_debug.md). -/
  ranges : List RangeOut
  /-- The events still to come (log entry 21). -/
  script : List Event
  deriving DecidableEq, Repr

/-- Why a step stops with a fault. -/
inductive Fault where
  /-- MRS of the SPSR in User or System mode, which have none: raised by `execMrs` (rule R36 of 10_state.md: the model
  faults on the read). Safe: the machine stops where the spec gives no value. -/
  | noSpsr
  /-- An instruction is executed although M[4:0] holds no legal mode: raised by every meaning (rule R41 of 10_state.md:
  no further instruction executes until reset). `step` does not get here, it stutters. Safe. -/
  | illegalMode
  deriving DecidableEq, Repr

/-- Why the model refuses a step. -/
inductive Refusal where
  /-- An instruction without a meaning yet: raised by arms of `exec`. Safe. -/
  | notModelled (mnemonic : String)
  /-- Condition field 1111: raised by every ARM meaning (rule R114 of 30_encoding.md, decision D10). Safe. -/
  | condNever
  /-- An operand combination of decision D18: raised by the meanings, by name. Safe. -/
  | operands (r : Restriction)
  /-- The fetched bits are no instruction: raised by `step` (rules R118 and R143 of 30_encoding.md). Safe. -/
  | notAnInstruction (e : DecodeError)
  /-- Sequential execution would wrap past the top of the address space: raised by every meaning that falls through
  (rule R33 of 10_state.md, decision D11). Safe. -/
  | addressWrap
  /-- A misaligned data access: raised by loads and stores under `Misaligned = refuse`, and for halfwords and loads of
  the PC always (rule R79 of 20_memory.md, decision D2). Safe. -/
  | misaligned
  /-- A store into the two slots after the storing instruction: raised by stores (rule R98 of 20_memory.md, decision
  D7). Safe. -/
  | codeWindow
  /-- A banked register is read right after a User-bank LDM: raised by meanings (rule R620 of 70_reset_and_hazards.md).
  Safe. -/
  | userBankHazard
  /-- MSR would change the T bit: raised by `execMsrReg`, `execMsrImm` (rule R40 of 10_state.md). Safe. -/
  | stateBit
  /-- MSR would change reserved PSR bits from the value MRS last read: raised by `execMsrReg`, `execMsrImm` (rule R42 of
  10_state.md, decision D13). Safe. -/
  | reservedBits
  /-- A write of the SPSR or a restore from it in User or System mode: raised by MSR, by data processing with S and
  Rd = r15, and by LDM with `^` and r15 (rule R36 of 10_state.md). Safe. -/
  | noSpsr
  /-- A coprocessor gave the response of rule R326 of 46_coprocessor.md that a correct one never gives: raised by the
  coprocessor meanings. Safe. -/
  | coprocessorProtocol
  /-- A CP14 instruction other than the three of rule R336 of 46_coprocessor.md (rule R338, decision D16). Safe. -/
  | debugCoprocessor
  /-- nRESET was LOW for fewer than two cycles (rule R600 of 70_reset_and_hazards.md). Safe. -/
  | resetPulse
  /-- An instruction that may not be scanned into the pipeline in debug state (rule R561 (e) of 61_debug.md). Safe. -/
  | debugInstruction
  /-- A TAP instruction or a scan chain number that the spec refuses: SAMPLE/PRELOAD, CLAMP with a chain other than 0, scan chains
  4 and 8 (rules R572 and R573 of 61_debug.md, S20, S22 and S23 of 93_implementation_defined.md). Safe. -/
  | scanChain
  /-- A production test clock: INTEST clocks the core through scan chain 0, or through scan chain 1 outside debug state (rules R5 of
  00_scope.md and R574 of 61_debug.md). Safe. -/
  | productionTest
  /-- An EmbeddedICE register address the spec does not list (rule R47 of 10_state.md). Safe. -/
  | iceAddress
  /-- A watchpoint register written while its unit can fire (rule R559 of 61_debug.md, decision D20). Safe. -/
  | watchProgramming
  deriving DecidableEq, Repr

/-- A program status register of zeros (log entries 2 and 3). -/
def Psr.zero : Psr :=
  { n := false, z := false, c := false, v := false, reserved := 0, i := false, f := false, t := false, m := 0 }

/-- The general registers at reset: zero, DESIGN CHOICE, unsafe (log entry 1). -/
def RegFile.zero : RegFile :=
  { r0 := 0, r1 := 0, r2 := 0, r3 := 0, r4 := 0, r5 := 0, r6 := 0, r7 := 0, r8 := 0,
    r9 := 0, r10 := 0, r11 := 0, r12 := 0,
    r8Fiq := 0, r9Fiq := 0, r10Fiq := 0, r11Fiq := 0, r12Fiq := 0,
    r13 := 0, r14 := 0, r13Fiq := 0, r14Fiq := 0, r13Irq := 0, r14Irq := 0,
    r13Svc := 0, r14Svc := 0, r13Abt := 0, r14Abt := 0, r13Und := 0, r14Und := 0 }

/-- A watchpoint unit at reset: zero, DESIGN CHOICE, unsafe (log entry 28). -/
def Watch.zero : Watch :=
  { addrValue := 0, addrMask := 0, dataValue := 0, dataMask := 0, ctlValue := 0, ctlMask := 0, chainOut := false }

/-- The CPSR that reset leaves, rule R60 of 10_state.md: Supervisor mode, ARM state, I and F set. The flags and the reserved
bits are zero, DESIGN CHOICE, unsafe (log entry 2). -/
def Psr.reset : Psr := { Psr.zero with i := true, f := true, t := false, m := 0b10011#5 }

/-- The debug hidden state of a core that is not in debug state, rules R56 of 10_state.md and R556 of 61_debug.md. -/
def Dbg.reset : Dbg :=
  { inDebug := false, bit33 := none, watchHit := false, entered := false, pipe := [], phase := .ready, bus := none,
    feed := none, captured := [] }

/-- No status register has been read since reset. -/
def PsrReads.none : PsrReads :=
  { cpsr := Option.none, fiq := Option.none, irq := Option.none, svc := Option.none, abt := Option.none, und := Option.none }

/-- The TAP after nTRST, rule R61 of 10_state.md: TEST-LOGIC RESET, IDCODE, scan path select 0x3; the shift stages are zero
(DESIGN CHOICE, unsafe, log entry 29). -/
def Tap.reset : Tap :=
  { state := .testLogicReset, ir := 0b1110#4, irShift := 0, select := 3, selectShift := 0, bypass := false, idShift := 0,
    chain0 := 0, chain1 := 0, chain2 := 0, tdo := false, tdoDriven := false }

/-- The parameters at the defaults of 92_eei_decisions.md; IDCODE has none, its fields are 0 here (log entry 45). -/
def Params.default : Params :=
  { bigend := false, misaligned := .refuse, pabtCondFromBus := false, dbgen := false,
    idcode := { version := 0, part := 0, manufacturer := 0 }, unmappedAborts := true }

/-- The environment at reset: no request on a pin, all addresses storage, no access aborts, no coprocessor (log entries 6,
19, 20 and 25). -/
def Env.default : Env :=
  { pins := { nFiq := true, nIrq := true, dbgrq := false, extern0 := false, extern1 := false }, params := .default,
    map := [{ lo := 0, hi := 2^32 - 1, kind := .storage }], aborts := [], extBreak := [], coprocs := [], devIn := [] }

/-- The machine right after reset, rules R60 and R61 of 10_state.md and R601 of 70_reset_and_hazards.md. -/
def State.reset : State :=
  { regs := .zero, pc := 0, cpsr := .reset,
    spsr := { fiq := .zero, irq := .zero, svc := .zero, abt := .zero, und := .zero }, psrRead := .none, mem := [],
    dcc := { w := false, r := false, dataWrite := 0, dataRead := 0 },
    ice := { control := 0, dbgrqSync := false, status := 0b00100#5, w0 := .zero, w1 := .zero }, tap := .reset, dbg := .reset,
    usrLdm := false, waiting := none, fetchPriv := true, nextFetchPriv := true, free := 0, env := .default, bus := [], cop := [],
    ranges := [], script := [] }

end Sys2Proof.Machine
end

