-- ==== Sys2Proof/Machine/Memory.lean ====
section
/-! DEFINITION. Memory as bytes, and how bytes, halfwords and words overlap (rules R70 to R77 of 20_memory.md). -/

namespace Sys2Proof.Machine

/-- The byte at an address (rule R70). -/
def Memory.read : Memory → Nat → Byte
  | [], _ => Config.unlistedByte
  | (k, b) :: rest, a => if a = k then b else Memory.read rest a

/-- Storing one byte; the canonical form is kept: addresses rise and no listed byte is the unlisted value. -/
def Memory.write : Memory → Nat → Byte → Memory
  | [], a, b => if b = Config.unlistedByte then [] else [(a, b)]
  | (k, c) :: rest, a, b =>
    if a < k then (if b = Config.unlistedByte then (k, c) :: rest else (a, b) :: (k, c) :: rest)
    else if a = k then (if b = Config.unlistedByte then rest else (k, b) :: rest)
    else (k, c) :: Memory.write rest a b

/-- The canonical form from address `lo` up: addresses rise, stay below 2^32, and no byte is the unlisted value. -/
def Memory.wfFrom : Nat → Memory → Bool
  | _, [] => true
  | lo, (k, b) :: rest => decide (lo ≤ k) && decide (k < 2^32) && decide (b ≠ Config.unlistedByte) && Memory.wfFrom (k + 1) rest

/-- The canonical form of memory. -/
def Memory.wf (m : Memory) : Bool := Memory.wfFrom 0 m

/-- The byte at a 32-bit address. -/
def Memory.byte (m : Memory) (a : Word) : Byte := m.read a.toNat

/-- How many bytes an access moves (rule R84). -/
def Size.bytes : Size → Nat
  | .byte => 1 | .half => 2 | .word => 4

/-- MAS[1:0], rule R72. -/
def Size.mas : Size → BitVec 2
  | .byte => 0 | .half => 1 | .word => 2

/-- The address the memory system uses: the low bits ignored (rule R76). -/
def Size.align : Size → Word → Word
  | .byte, a => a
  | .half, a => a &&& 0xFFFFFFFE#32
  | .word, a => a &&& 0xFFFFFFFC#32

/-- Whether the address is on the natural boundary (rule R78). -/
def Size.aligned (z : Size) (a : Word) : Bool := decide (z.align a = a)

/-- `Half(H)` of rule R74. -/
def Memory.half (big : Bool) (m : Memory) (a : Word) : Half :=
  if big then m.byte a ++ m.byte (a + 1) else m.byte (a + 1) ++ m.byte a

/-- `Word(A)` of rule R74. -/
def Memory.word (big : Bool) (m : Memory) (a : Word) : Word :=
  if big then m.byte a ++ m.byte (a + 1) ++ m.byte (a + 2) ++ m.byte (a + 3)
  else m.byte (a + 3) ++ m.byte (a + 2) ++ m.byte (a + 1) ++ m.byte a

/-- The n bytes at an aligned address as a value in the low bits of a word (rule R80). -/
def Memory.value (big : Bool) (m : Memory) (z : Size) (a : Word) : Word :=
  match z with
  | .byte => (m.byte a).setWidth 32
  | .half => (m.half big a).setWidth 32
  | .word => m.word big a

/-- Byte `i` of the value as the store of rule R81 lays it out: `i` counts from the lowest address. -/
def storeByte (big : Bool) (z : Size) (v : Word) (i : Nat) : Byte :=
  BitVec.ofNat 8 (v.toNat / 2^(8 * (if big then z.bytes - 1 - i else i)))

/-- Storing a value at an aligned address (rule R81): only the n addressed bytes change. -/
def Memory.store (big : Bool) (m : Memory) (z : Size) (a v : Word) : Memory :=
  (List.range z.bytes).foldl (fun m i => m.write (a + BitVec.ofNat 32 i).toNat (storeByte big z v i)) m

/-- The datum that an access of the given size takes from the data bus, Table 3-7 of rule R75. -/
def lane (big : Bool) (z : Size) (a : Word) (d : Word) : Word :=
  match z with
  | .word => d
  | .half => if a.getLsbD 1 = big then d &&& 0xFFFF#32 else d >>> 16
  | .byte =>
    let k := a.toNat % 4
    (d >>> (8 * (if big then 3 - k else k))) &&& 0xFF#32

/-- The data bus of a store: a byte four times, a halfword twice (rule R75). -/
def replicate (z : Size) (v : Word) : Word :=
  match z with
  | .word => v
  | .half => v.setWidth 16 ++ v.setWidth 16
  | .byte => v.setWidth 8 ++ v.setWidth 8 ++ v.setWidth 8 ++ v.setWidth 8

/-- Sign extension of a byte to a word (rule R84). -/
def signByte (v : Word) : Word := (v.setWidth 8).signExtend 32

/-- Sign extension of a halfword to a word (rule R84). -/
def signHalf (v : Word) : Word := (v.setWidth 16).signExtend 32

end Sys2Proof.Machine
end

