-- ==== Sys2Proof/Decode.lean ====
section
/-! DEFINITION. From bits to instructions and back. The decoder is total: a word is an instruction of the tables or is
rejected by a name (rules R115 to R118 and R140 to R143 of 30_encoding.md). The encoder writes the words of the same tables.
Words are read as numbers: bit 0 is the least significant bit (rule R12). -/

namespace Sys2Proof

/-- The field of `w` bits of `n` whose lowest bit is bit `lo` (rule R12: `n[lo+w-1:lo]`). -/
def fld (n lo w : Nat) : Nat := n / 2^lo % 2^w

/-- Bit `lo` of `n`. -/
def fbit (n lo : Nat) : Bool := decide (n / 2^lo % 2 = 1)

/-- A register field of ARM state: four bits. -/
def freg (n lo : Nat) : Reg := BitVec.ofNat 4 (fld n lo 4)

/-- A low register field of Thumb state: three bits. -/
def flreg (n lo : Nat) : LReg := BitVec.ofNat 3 (fld n lo 3)

/-- The 4-bit code of a condition, rule R113. -/
def Cond.code : Cond → Nat
  | .eq => 0 | .ne => 1 | .cs => 2 | .cc => 3 | .mi => 4 | .pl => 5 | .vs => 6 | .vc => 7
  | .hi => 8 | .ls => 9 | .ge => 10 | .lt => 11 | .gt => 12 | .le => 13 | .al => 14 | .nv => 15

/-- The condition of a 4-bit code, rules R113 and R114. -/
def Cond.ofCode : Nat → Cond
  | 0 => .eq | 1 => .ne | 2 => .cs | 3 => .cc | 4 => .mi | 5 => .pl | 6 => .vs | 7 => .vc
  | 8 => .hi | 9 => .ls | 10 => .ge | 11 => .lt | 12 => .gt | 13 => .le | 14 => .al | _ => .nv

/-- The 2-bit code of a shift type, rule R115. -/
def ShiftType.code : ShiftType → Nat
  | .lsl => 0 | .lsr => 1 | .asr => 2 | .ror => 3

/-- The shift type of a 2-bit code, rule R115. -/
def ShiftType.ofCode : Nat → ShiftType
  | 0 => .lsl | 1 => .lsr | 2 => .asr | _ => .ror

/-- The operation of a 4-bit opcode, rule R116. -/
def DpOp.ofCode : Nat → DpOp
  | 0 => .and | 1 => .eor | 2 => .sub | 3 => .rsb | 4 => .add | 5 => .adc | 6 => .sbc | 7 => .rsc
  | 8 => .tst | 9 => .teq | 10 => .cmp | 11 => .cmn | 12 => .orr | 13 => .mov | 14 => .bic | _ => .mvn

/-- The data-processing instruction of one operation, format A10 (rule R116). -/
def mkDpImm (op : DpOp) (cond : Cond) (s : Bool) (rn rd : Reg) (rot : BitVec 4) (imm : BitVec 8) : Instr :=
  match op with
  | .and => .andImm cond s rn rd rot imm
  | .eor => .eorImm cond s rn rd rot imm
  | .sub => .subImm cond s rn rd rot imm
  | .rsb => .rsbImm cond s rn rd rot imm
  | .add => .addImm cond s rn rd rot imm
  | .adc => .adcImm cond s rn rd rot imm
  | .sbc => .sbcImm cond s rn rd rot imm
  | .rsc => .rscImm cond s rn rd rot imm
  | .tst => .tstImm cond rn rd rot imm
  | .teq => .teqImm cond rn rd rot imm
  | .cmp => .cmpImm cond rn rd rot imm
  | .cmn => .cmnImm cond rn rd rot imm
  | .orr => .orrImm cond s rn rd rot imm
  | .mov => .movImm cond s rn rd rot imm
  | .bic => .bicImm cond s rn rd rot imm
  | .mvn => .mvnImm cond s rn rd rot imm

/-- The data-processing instruction of one operation, format A11 (rule R116). -/
def mkDpShi (op : DpOp) (cond : Cond) (s : Bool) (rn rd : Reg) (shamt : BitVec 5) (sh : ShiftType) (rm : Reg) : Instr :=
  match op with
  | .and => .andShi cond s rn rd shamt sh rm
  | .eor => .eorShi cond s rn rd shamt sh rm
  | .sub => .subShi cond s rn rd shamt sh rm
  | .rsb => .rsbShi cond s rn rd shamt sh rm
  | .add => .addShi cond s rn rd shamt sh rm
  | .adc => .adcShi cond s rn rd shamt sh rm
  | .sbc => .sbcShi cond s rn rd shamt sh rm
  | .rsc => .rscShi cond s rn rd shamt sh rm
  | .tst => .tstShi cond rn rd shamt sh rm
  | .teq => .teqShi cond rn rd shamt sh rm
  | .cmp => .cmpShi cond rn rd shamt sh rm
  | .cmn => .cmnShi cond rn rd shamt sh rm
  | .orr => .orrShi cond s rn rd shamt sh rm
  | .mov => .movShi cond s rn rd shamt sh rm
  | .bic => .bicShi cond s rn rd shamt sh rm
  | .mvn => .mvnShi cond s rn rd shamt sh rm

/-- The data-processing instruction of one operation, format A12 (rule R116). -/
def mkDpShr (op : DpOp) (cond : Cond) (s : Bool) (rn rd : Reg) (rs : Reg) (sh : ShiftType) (rm : Reg) : Instr :=
  match op with
  | .and => .andShr cond s rn rd rs sh rm
  | .eor => .eorShr cond s rn rd rs sh rm
  | .sub => .subShr cond s rn rd rs sh rm
  | .rsb => .rsbShr cond s rn rd rs sh rm
  | .add => .addShr cond s rn rd rs sh rm
  | .adc => .adcShr cond s rn rd rs sh rm
  | .sbc => .sbcShr cond s rn rd rs sh rm
  | .rsc => .rscShr cond s rn rd rs sh rm
  | .tst => .tstShr cond rn rd rs sh rm
  | .teq => .teqShr cond rn rd rs sh rm
  | .cmp => .cmpShr cond rn rd rs sh rm
  | .cmn => .cmnShr cond rn rd rs sh rm
  | .orr => .orrShr cond s rn rd rs sh rm
  | .mov => .movShr cond s rn rd rs sh rm
  | .bic => .bicShr cond s rn rd rs sh rm
  | .mvn => .mvnShr cond s rn rd rs sh rm

/-- Rows A2, A3 and A4 of rule R115: bits [27:25] = 000 with bits [7:4] = 1001. -/
def decodeMultiplySpace (n : Nat) (cond : Cond) : Except DecodeError Instr :=
  let s := fbit n 20
  let rdHi := freg n 16
  let rdLo := freg n 12
  let rs := freg n 8
  let rm := freg n 0
  match fld n 21 4 with
  | 0 => .ok (.mul cond s rdHi rdLo rs rm)
  | 1 => .ok (.mla cond s rdHi rdLo rs rm)
  | 4 => .ok (.umull cond s rdHi rdLo rs rm)
  | 5 => .ok (.umlal cond s rdHi rdLo rs rm)
  | 6 => .ok (.smull cond s rdHi rdLo rs rm)
  | 7 => .ok (.smlal cond s rdHi rdLo rs rm)
  | 8 => if fld n 20 1 = 0 ∧ fld n 8 4 = 0 then .ok (.swp cond rdHi rdLo rm) else .error .multiplySpace
  | 10 => if fld n 20 1 = 0 ∧ fld n 8 4 = 0 then .ok (.swpb cond rdHi rdLo rm) else .error .multiplySpace
  | _ => .error .multiplySpace

/-- Rows A5 and A6 of rule R115: bits [27:25] = 000, bit 7 = 1, bit 4 = 1 and S:H (bits [6:5]) not 00. -/
def decodeHalfwordSpace (n : Nat) (cond : Cond) : Except DecodeError Instr :=
  let p := fbit n 24
  let u := fbit n 23
  let w := fbit n 21
  let rn := freg n 16
  let rd := freg n 12
  let rm := freg n 0
  let off := BitVec.ofNat 8 (fld n 8 4 * 16 + fld n 0 4)
  if fld n 22 1 = 0 then
    if fld n 8 4 ≠ 0 then .error .halfwordFixedField
    else match fld n 20 1, fld n 5 2 with
      | 0, 1 => .ok (.strhReg cond p u w rn rd rm)
      | 0, _ => .error .signedStore
      | _, 1 => .ok (.ldrhReg cond p u w rn rd rm)
      | _, 2 => .ok (.ldrsbReg cond p u w rn rd rm)
      | _, _ => .ok (.ldrshReg cond p u w rn rd rm)
  else match fld n 20 1, fld n 5 2 with
    | 0, 1 => .ok (.strhImm cond p u w rn rd off)
    | 0, _ => .error .signedStore
    | _, 1 => .ok (.ldrhImm cond p u w rn rd off)
    | _, 2 => .ok (.ldrsbImm cond p u w rn rd off)
    | _, _ => .ok (.ldrshImm cond p u w rn rd off)

/-- Rows A1, A7 and A8 of rule R115: bits [27:25] = 000, opcode 10xx with S = 0. -/
def decodeStatusSpace (n : Nat) (cond : Cond) : Except DecodeError Instr :=
  if fld n 4 24 = 0x12FFF1 then .ok (.bx cond (freg n 0))
  else if fld n 20 2 = 0 ∧ fld n 16 4 = 15 ∧ fld n 0 12 = 0 then .ok (.mrs cond (fbit n 22) (freg n 12))
  else if fld n 20 2 = 2 ∧ fld n 12 4 = 15 ∧ fld n 4 8 = 0 then
    .ok (.msrReg cond (fbit n 22) (BitVec.ofNat 4 (fld n 16 4)) (freg n 0))
  else .error .statusSpace

/-- Whether bits [24:20] are opcode 10xx with S = 0, which is no data-processing instruction (rule R116). -/
def isStatusOpcode (n : Nat) : Bool := decide (fld n 23 2 = 2 ∧ fld n 20 1 = 0)

/-- Bits [27:25] = 000. -/
def decodeArm000 (n : Nat) (cond : Cond) : Except DecodeError Instr :=
  if fld n 4 1 = 1 ∧ fld n 7 1 = 1 then
    if fld n 5 2 = 0 then decodeMultiplySpace n cond else decodeHalfwordSpace n cond
  else if isStatusOpcode n then decodeStatusSpace n cond
  else
    let op := DpOp.ofCode (fld n 21 4)
    let sh := ShiftType.ofCode (fld n 5 2)
    if fld n 4 1 = 0 then
      .ok (mkDpShi op cond (fbit n 20) (freg n 16) (freg n 12) (BitVec.ofNat 5 (fld n 7 5)) sh (freg n 0))
    else .ok (mkDpShr op cond (fbit n 20) (freg n 16) (freg n 12) (freg n 8) sh (freg n 0))

/-- Bits [27:25] = 001: rows A9 and A10. -/
def decodeArm001 (n : Nat) (cond : Cond) : Except DecodeError Instr :=
  let rot := BitVec.ofNat 4 (fld n 8 4)
  let imm := BitVec.ofNat 8 (fld n 0 8)
  if isStatusOpcode n then
    if fld n 21 1 = 1 ∧ fld n 12 4 = 15 then .ok (.msrImm cond (fbit n 22) (BitVec.ofNat 4 (fld n 16 4)) rot imm)
    else .error .statusSpace
  else .ok (mkDpImm (DpOp.ofCode (fld n 21 4)) cond (fbit n 20) (freg n 16) (freg n 12) rot imm)

/-- Bits [27:25] = 010: row A13, the T forms where P = 0 and W = 1 (rule R131). -/
def decodeArm010 (n : Nat) (cond : Cond) : Instr :=
  let u := fbit n 23
  let w := fbit n 21
  let rn := freg n 16
  let rd := freg n 12
  let off := BitVec.ofNat 12 (fld n 0 12)
  match fld n 24 1, fld n 22 1, fld n 20 1, fld n 21 1 with
  | 1, 0, 0, _ => .strImm cond u w rn rd off
  | 1, 0, _, _ => .ldrImm cond u w rn rd off
  | 1, _, 0, _ => .strbImm cond u w rn rd off
  | 1, _, _, _ => .ldrbImm cond u w rn rd off
  | _, 0, 0, 0 => .strImmPost cond u rn rd off
  | _, 0, 0, _ => .strtImm cond u rn rd off
  | _, 0, _, 0 => .ldrImmPost cond u rn rd off
  | _, 0, _, _ => .ldrtImm cond u rn rd off
  | _, _, 0, 0 => .strbImmPost cond u rn rd off
  | _, _, 0, _ => .strbtImm cond u rn rd off
  | _, _, _, 0 => .ldrbImmPost cond u rn rd off
  | _, _, _, _ => .ldrbtImm cond u rn rd off

/-- Bits [27:25] = 011: row A14, and row A15 (undefined) where bit 4 = 1. -/
def decodeArm011 (n : Nat) (cond : Cond) : Instr :=
  let u := fbit n 23
  let w := fbit n 21
  let rn := freg n 16
  let rd := freg n 12
  let a := BitVec.ofNat 5 (fld n 7 5)
  let sh := ShiftType.ofCode (fld n 5 2)
  let rm := freg n 0
  if fld n 4 1 = 1 then .undefined cond (BitVec.ofNat 20 (fld n 5 20)) (BitVec.ofNat 4 (fld n 0 4))
  else match fld n 24 1, fld n 22 1, fld n 20 1, fld n 21 1 with
    | 1, 0, 0, _ => .strReg cond u w rn rd a sh rm
    | 1, 0, _, _ => .ldrReg cond u w rn rd a sh rm
    | 1, _, 0, _ => .strbReg cond u w rn rd a sh rm
    | 1, _, _, _ => .ldrbReg cond u w rn rd a sh rm
    | _, 0, 0, 0 => .strRegPost cond u rn rd a sh rm
    | _, 0, 0, _ => .strtReg cond u rn rd a sh rm
    | _, 0, _, 0 => .ldrRegPost cond u rn rd a sh rm
    | _, 0, _, _ => .ldrtReg cond u rn rd a sh rm
    | _, _, 0, 0 => .strbRegPost cond u rn rd a sh rm
    | _, _, 0, _ => .strbtReg cond u rn rd a sh rm
    | _, _, _, 0 => .ldrbRegPost cond u rn rd a sh rm
    | _, _, _, _ => .ldrbtReg cond u rn rd a sh rm

/-- Bits [27:25] = 100: row A16, P and U select the mode (rule R133). -/
def decodeArm100 (n : Nat) (cond : Cond) : Instr :=
  let s := fbit n 22
  let w := fbit n 21
  let rn := freg n 16
  let list := BitVec.ofNat 16 (fld n 0 16)
  match fld n 20 1, fld n 23 2 with
  | 1, 0 => .ldmda cond s w rn list
  | 1, 1 => .ldmia cond s w rn list
  | 1, 2 => .ldmdb cond s w rn list
  | 1, _ => .ldmib cond s w rn list
  | _, 0 => .stmda cond s w rn list
  | _, 1 => .stmia cond s w rn list
  | _, 2 => .stmdb cond s w rn list
  | _, _ => .stmib cond s w rn list

/-- Bits [27:25] = 110: row A18. -/
def decodeArm110 (n : Nat) (cond : Cond) : Instr :=
  let p := fbit n 24
  let u := fbit n 23
  let l := fbit n 22
  let w := fbit n 21
  let rn := freg n 16
  let crd := BitVec.ofNat 4 (fld n 12 4)
  let cp := BitVec.ofNat 4 (fld n 8 4)
  let off := BitVec.ofNat 8 (fld n 0 8)
  if fld n 20 1 = 1 then .ldc cond p u l w rn crd cp off else .stc cond p u l w rn crd cp off

/-- Bits [27:25] = 111: rows A19, A20 and A21. -/
def decodeArm111 (n : Nat) (cond : Cond) : Instr :=
  let crn := BitVec.ofNat 4 (fld n 16 4)
  let cp := BitVec.ofNat 4 (fld n 8 4)
  let op2 := BitVec.ofNat 3 (fld n 5 3)
  let crm := BitVec.ofNat 4 (fld n 0 4)
  let op1 := BitVec.ofNat 3 (fld n 21 3)
  let rd := freg n 12
  if fld n 24 1 = 1 then .swi cond (BitVec.ofNat 24 (fld n 0 24))
  else if fld n 4 1 = 0 then
    .cdp cond (BitVec.ofNat 4 (fld n 20 4)) crn (BitVec.ofNat 4 (fld n 12 4)) cp op2 crm
  else if fld n 20 1 = 1 then .mrc cond op1 crn rd cp op2 crm
  else .mcr cond op1 crn rd cp op2 crm

/-- The ARM instruction in the word `n`, rule R115. -/
def decodeArm (n : Nat) : Except DecodeError Instr :=
  let cond := Cond.ofCode (fld n 28 4)
  match fld n 25 3 with
  | 0 => decodeArm000 n cond
  | 1 => decodeArm001 n cond
  | 2 => .ok (decodeArm010 n cond)
  | 3 => .ok (decodeArm011 n cond)
  | 4 => .ok (decodeArm100 n cond)
  | 5 =>
    let off := BitVec.ofNat 24 (fld n 0 24)
    .ok (if fld n 24 1 = 1 then .bl cond off else .b cond off)
  | 6 => .ok (decodeArm110 n cond)
  | _ => .ok (decodeArm111 n cond)

/-- Format T4, rule R141: the sixteen operations on two low registers. -/
def decodeThumbAlu (n : Nat) : Instr :=
  let rd := flreg n 0
  let rs := flreg n 3
  match fld n 6 4 with
  | 0 => .tAnd rd rs | 1 => .tEor rd rs | 2 => .tLslReg rd rs | 3 => .tLsrReg rd rs
  | 4 => .tAsrReg rd rs | 5 => .tAdc rd rs | 6 => .tSbc rd rs | 7 => .tRorReg rd rs
  | 8 => .tTst rd rs | 9 => .tNeg rd rs | 10 => .tCmpReg rd rs | 11 => .tCmn rd rs
  | 12 => .tOrr rd rs | 13 => .tMul rd rs | 14 => .tBic rd rs | _ => .tMvn rd rs

/-- Format T5: H1:Rd and H2:Rs are full register numbers. -/
def decodeThumbHigh (n : Nat) : Except DecodeError Instr :=
  let rd := BitVec.ofNat 4 (fld n 7 1 * 8 + fld n 0 3)
  let rs := freg n 3
  match fld n 8 2 with
  | 0 => .ok (.tAddHi rd rs)
  | 1 => .ok (.tCmpHi rd rs)
  | 2 => .ok (.tMovHi rd rs)
  | _ => if fld n 7 1 = 0 ∧ fld n 0 3 = 0 then .ok (.tBx rs) else .error .thumbBranchExchange

/-- Formats T7 and T8, bits [15:12] = 0101. -/
def decodeThumbRegOffset (n : Nat) : Instr :=
  let rd := flreg n 0
  let rb := flreg n 3
  let ro := flreg n 6
  match fld n 9 3 with
  | 0 => .tStrReg rd rb ro | 1 => .tStrhReg rd rb ro | 2 => .tStrbReg rd rb ro | 3 => .tLdrsbReg rd rb ro
  | 4 => .tLdrReg rd rb ro | 5 => .tLdrhReg rd rb ro | 6 => .tLdrbReg rd rb ro | _ => .tLdrshReg rd rb ro

/-- Bits [15:12] = 1011: formats T13 and T14, the rest unallocated (rule R143). -/
def decodeThumbMisc (n : Nat) : Except DecodeError Instr :=
  let list := BitVec.ofNat 8 (fld n 0 8)
  let off := BitVec.ofNat 7 (fld n 0 7)
  match fld n 8 4 with
  | 0 => .ok (if fld n 7 1 = 0 then .tIncSp off else .tDecSp off)
  | 4 => .ok (.tPush false list)
  | 5 => .ok (.tPush true list)
  | 12 => .ok (.tPop false list)
  | 13 => .ok (.tPop true list)
  | _ => .error .thumbMiscellaneous

/-- Bits [15:12] = 1101: formats T16 and T17 and the undefined halfword (rules R142, R143). -/
def decodeThumbCond (n : Nat) : Instr :=
  let off := BitVec.ofNat 8 (fld n 0 8)
  match fld n 8 4 with
  | 0 => .tBeq off | 1 => .tBne off | 2 => .tBcs off | 3 => .tBcc off | 4 => .tBmi off | 5 => .tBpl off
  | 6 => .tBvs off | 7 => .tBvc off | 8 => .tBhi off | 9 => .tBls off | 10 => .tBge off | 11 => .tBlt off
  | 12 => .tBgt off | 13 => .tBle off | 14 => .tUndefined off | _ => .tSwi off

/-- The Thumb instruction in the halfword `n`, rule R140, by bits [15:11]. -/
def decodeThumb (n : Nat) : Except DecodeError Instr :=
  let rd := flreg n 0
  let rs := flreg n 3
  let rx := flreg n 8
  let off5 := BitVec.ofNat 5 (fld n 6 5)
  let imm8 := BitVec.ofNat 8 (fld n 0 8)
  let off11 := BitVec.ofNat 11 (fld n 0 11)
  match fld n 11 5 with
  | 0 => .ok (.tLslImm rd rs off5)
  | 1 => .ok (.tLsrImm rd rs off5)
  | 2 => .ok (.tAsrImm rd rs off5)
  | 3 =>
    let r3 := flreg n 6
    match fld n 9 2 with
    | 0 => .ok (.tAddReg rd rs r3)
    | 1 => .ok (.tSubReg rd rs r3)
    | 2 => .ok (.tAddImm3 rd rs r3)
    | _ => .ok (.tSubImm3 rd rs r3)
  | 4 => .ok (.tMovImm rx imm8)
  | 5 => .ok (.tCmpImm rx imm8)
  | 6 => .ok (.tAddImm8 rx imm8)
  | 7 => .ok (.tSubImm8 rx imm8)
  | 8 => if fld n 10 1 = 0 then .ok (decodeThumbAlu n) else decodeThumbHigh n
  | 9 => .ok (.tLdrPc rx imm8)
  | 10 | 11 => .ok (decodeThumbRegOffset n)
  | 12 => .ok (.tStrImm rd rs off5)
  | 13 => .ok (.tLdrImm rd rs off5)
  | 14 => .ok (.tStrbImm rd rs off5)
  | 15 => .ok (.tLdrbImm rd rs off5)
  | 16 => .ok (.tStrhImm rd rs off5)
  | 17 => .ok (.tLdrhImm rd rs off5)
  | 18 => .ok (.tStrSp rx imm8)
  | 19 => .ok (.tLdrSp rx imm8)
  | 20 => .ok (.tAddPc rx imm8)
  | 21 => .ok (.tAddSp rx imm8)
  | 22 | 23 => decodeThumbMisc n
  | 24 => .ok (.tStmia rx imm8)
  | 25 => .ok (.tLdmia rx imm8)
  | 26 | 27 => .ok (decodeThumbCond n)
  | 28 => .ok (.tB off11)
  | 29 => .error .thumbUnallocated
  | 30 => .ok (.tBlHi off11)
  | _ => .ok (.tBlLo off11)

/-- The instruction at the program counter: a Thumb halfword where T = 1, an ARM word otherwise (rule R110). -/
def decode (thumb : Bool) (w : Word) : Except DecodeError Instr :=
  if thumb then decodeThumb (w.toNat % 2^16) else decodeArm w.toNat

/-- The bytes of a value, the lowest-addressed byte first (little-endian, rule R74). -/
def leBytes : Nat → Nat → List Byte
  | 0, _ => []
  | k + 1, w => BitVec.ofNat 8 w :: leBytes k (w / 2^8)

/-- The value of bytes stored little-endian (rule R74). -/
def ofLeBytes : List Byte → Nat
  | [] => 0
  | b :: bs => b.toNat + 2^8 * ofLeBytes bs

/-- The instruction that this decoder reads from a table row's word of `nbits` bits, stored as little-endian memory
holds it: rows of 16 bits are Thumb, rows of 32 bits are ARM (rule R110). -/
def decodeTableWord (nbits w : Nat) : Option Instr :=
  let thumb := decide (nbits = 16)
  let bytes := leBytes (if thumb then 2 else 4) w
  match decode thumb (BitVec.ofNat 32 (ofLeBytes bytes)) with
  | .ok i => some i
  | .error _ => none

/-- The bits of an instruction: an ARM word or a Thumb halfword, as a number (bit 0 the least significant). -/
inductive Code where
  | arm (n : Nat)
  | thumb (n : Nat)
  deriving DecidableEq, Repr

/-- The fixed bits of a row and its fields, each at the place of its lowest bit (rule R12). -/
def pack (fixed : Nat) : List (Nat × Nat) → Nat
  | [] => fixed
  | (v, lo) :: fs => v * 2^lo + pack fixed fs

/-- The word of an instruction: the fixed bits of its row of spec/opcode_table.json and its fields. -/
def encode : Instr → Code
  | .bx cond rm =>
    .arm (pack 0x12fff10 [(cond.code, 28), (rm.toNat, 0)])
  | .mul cond s rd rn rs rm =>
    .arm (pack 0x90 [(cond.code, 28), (s.toNat, 20), (rd.toNat, 16), (rn.toNat, 12), (rs.toNat, 8), (rm.toNat, 0)])
  | .mla cond s rd rn rs rm =>
    .arm (pack 0x200090 [(cond.code, 28), (s.toNat, 20), (rd.toNat, 16), (rn.toNat, 12), (rs.toNat, 8), (rm.toNat, 0)])
  | .umull cond s rdHi rdLo rs rm =>
    .arm (pack 0x800090 [(cond.code, 28), (s.toNat, 20), (rdHi.toNat, 16), (rdLo.toNat, 12), (rs.toNat, 8), (rm.toNat, 0)])
  | .umlal cond s rdHi rdLo rs rm =>
    .arm (pack 0xa00090 [(cond.code, 28), (s.toNat, 20), (rdHi.toNat, 16), (rdLo.toNat, 12), (rs.toNat, 8), (rm.toNat, 0)])
  | .smull cond s rdHi rdLo rs rm =>
    .arm (pack 0xc00090 [(cond.code, 28), (s.toNat, 20), (rdHi.toNat, 16), (rdLo.toNat, 12), (rs.toNat, 8), (rm.toNat, 0)])
  | .smlal cond s rdHi rdLo rs rm =>
    .arm (pack 0xe00090 [(cond.code, 28), (s.toNat, 20), (rdHi.toNat, 16), (rdLo.toNat, 12), (rs.toNat, 8), (rm.toNat, 0)])
  | .swp cond rn rd rm =>
    .arm (pack 0x1000090 [(cond.code, 28), (rn.toNat, 16), (rd.toNat, 12), (rm.toNat, 0)])
  | .swpb cond rn rd rm =>
    .arm (pack 0x1400090 [(cond.code, 28), (rn.toNat, 16), (rd.toNat, 12), (rm.toNat, 0)])
  | .strhReg cond p u w rn rd rm =>
    .arm (pack 0xb0 [(cond.code, 28), (p.toNat, 24), (u.toNat, 23), (w.toNat, 21), (rn.toNat, 16), (rd.toNat, 12), (rm.toNat, 0)])
  | .strhImm cond p u w rn rd off =>
    .arm (pack 0x4000b0 [(cond.code, 28), (p.toNat, 24), (u.toNat, 23), (w.toNat, 21), (rn.toNat, 16), (rd.toNat, 12), (off.toNat / 16, 8), (off.toNat % 16, 0)])
  | .ldrhReg cond p u w rn rd rm =>
    .arm (pack 0x1000b0 [(cond.code, 28), (p.toNat, 24), (u.toNat, 23), (w.toNat, 21), (rn.toNat, 16), (rd.toNat, 12), (rm.toNat, 0)])
  | .ldrhImm cond p u w rn rd off =>
    .arm (pack 0x5000b0 [(cond.code, 28), (p.toNat, 24), (u.toNat, 23), (w.toNat, 21), (rn.toNat, 16), (rd.toNat, 12), (off.toNat / 16, 8), (off.toNat % 16, 0)])
  | .ldrsbReg cond p u w rn rd rm =>
    .arm (pack 0x1000d0 [(cond.code, 28), (p.toNat, 24), (u.toNat, 23), (w.toNat, 21), (rn.toNat, 16), (rd.toNat, 12), (rm.toNat, 0)])
  | .ldrsbImm cond p u w rn rd off =>
    .arm (pack 0x5000d0 [(cond.code, 28), (p.toNat, 24), (u.toNat, 23), (w.toNat, 21), (rn.toNat, 16), (rd.toNat, 12), (off.toNat / 16, 8), (off.toNat % 16, 0)])
  | .ldrshReg cond p u w rn rd rm =>
    .arm (pack 0x1000f0 [(cond.code, 28), (p.toNat, 24), (u.toNat, 23), (w.toNat, 21), (rn.toNat, 16), (rd.toNat, 12), (rm.toNat, 0)])
  | .ldrshImm cond p u w rn rd off =>
    .arm (pack 0x5000f0 [(cond.code, 28), (p.toNat, 24), (u.toNat, 23), (w.toNat, 21), (rn.toNat, 16), (rd.toNat, 12), (off.toNat / 16, 8), (off.toNat % 16, 0)])
  | .mrs cond r rd =>
    .arm (pack 0x10f0000 [(cond.code, 28), (r.toNat, 22), (rd.toNat, 12)])
  | .msrReg cond r mask rm =>
    .arm (pack 0x120f000 [(cond.code, 28), (r.toNat, 22), (mask.toNat, 16), (rm.toNat, 0)])
  | .msrImm cond r mask rot imm =>
    .arm (pack 0x320f000 [(cond.code, 28), (r.toNat, 22), (mask.toNat, 16), (rot.toNat, 8), (imm.toNat, 0)])
  | .andImm cond s rn rd rot imm =>
    .arm (pack 0x2000000 [(cond.code, 28), (s.toNat, 20), (rn.toNat, 16), (rd.toNat, 12), (rot.toNat, 8), (imm.toNat, 0)])
  | .andShi cond s rn rd shamt sh rm =>
    .arm (pack 0 [(cond.code, 28), (s.toNat, 20), (rn.toNat, 16), (rd.toNat, 12), (shamt.toNat, 7), (sh.code, 5), (rm.toNat, 0)])
  | .andShr cond s rn rd rs sh rm =>
    .arm (pack 0x10 [(cond.code, 28), (s.toNat, 20), (rn.toNat, 16), (rd.toNat, 12), (rs.toNat, 8), (sh.code, 5), (rm.toNat, 0)])
  | .eorImm cond s rn rd rot imm =>
    .arm (pack 0x2200000 [(cond.code, 28), (s.toNat, 20), (rn.toNat, 16), (rd.toNat, 12), (rot.toNat, 8), (imm.toNat, 0)])
  | .eorShi cond s rn rd shamt sh rm =>
    .arm (pack 0x200000 [(cond.code, 28), (s.toNat, 20), (rn.toNat, 16), (rd.toNat, 12), (shamt.toNat, 7), (sh.code, 5), (rm.toNat, 0)])
  | .eorShr cond s rn rd rs sh rm =>
    .arm (pack 0x200010 [(cond.code, 28), (s.toNat, 20), (rn.toNat, 16), (rd.toNat, 12), (rs.toNat, 8), (sh.code, 5), (rm.toNat, 0)])
  | .subImm cond s rn rd rot imm =>
    .arm (pack 0x2400000 [(cond.code, 28), (s.toNat, 20), (rn.toNat, 16), (rd.toNat, 12), (rot.toNat, 8), (imm.toNat, 0)])
  | .subShi cond s rn rd shamt sh rm =>
    .arm (pack 0x400000 [(cond.code, 28), (s.toNat, 20), (rn.toNat, 16), (rd.toNat, 12), (shamt.toNat, 7), (sh.code, 5), (rm.toNat, 0)])
  | .subShr cond s rn rd rs sh rm =>
    .arm (pack 0x400010 [(cond.code, 28), (s.toNat, 20), (rn.toNat, 16), (rd.toNat, 12), (rs.toNat, 8), (sh.code, 5), (rm.toNat, 0)])
  | .rsbImm cond s rn rd rot imm =>
    .arm (pack 0x2600000 [(cond.code, 28), (s.toNat, 20), (rn.toNat, 16), (rd.toNat, 12), (rot.toNat, 8), (imm.toNat, 0)])
  | .rsbShi cond s rn rd shamt sh rm =>
    .arm (pack 0x600000 [(cond.code, 28), (s.toNat, 20), (rn.toNat, 16), (rd.toNat, 12), (shamt.toNat, 7), (sh.code, 5), (rm.toNat, 0)])
  | .rsbShr cond s rn rd rs sh rm =>
    .arm (pack 0x600010 [(cond.code, 28), (s.toNat, 20), (rn.toNat, 16), (rd.toNat, 12), (rs.toNat, 8), (sh.code, 5), (rm.toNat, 0)])
  | .addImm cond s rn rd rot imm =>
    .arm (pack 0x2800000 [(cond.code, 28), (s.toNat, 20), (rn.toNat, 16), (rd.toNat, 12), (rot.toNat, 8), (imm.toNat, 0)])
  | .addShi cond s rn rd shamt sh rm =>
    .arm (pack 0x800000 [(cond.code, 28), (s.toNat, 20), (rn.toNat, 16), (rd.toNat, 12), (shamt.toNat, 7), (sh.code, 5), (rm.toNat, 0)])
  | .addShr cond s rn rd rs sh rm =>
    .arm (pack 0x800010 [(cond.code, 28), (s.toNat, 20), (rn.toNat, 16), (rd.toNat, 12), (rs.toNat, 8), (sh.code, 5), (rm.toNat, 0)])
  | .adcImm cond s rn rd rot imm =>
    .arm (pack 0x2a00000 [(cond.code, 28), (s.toNat, 20), (rn.toNat, 16), (rd.toNat, 12), (rot.toNat, 8), (imm.toNat, 0)])
  | .adcShi cond s rn rd shamt sh rm =>
    .arm (pack 0xa00000 [(cond.code, 28), (s.toNat, 20), (rn.toNat, 16), (rd.toNat, 12), (shamt.toNat, 7), (sh.code, 5), (rm.toNat, 0)])
  | .adcShr cond s rn rd rs sh rm =>
    .arm (pack 0xa00010 [(cond.code, 28), (s.toNat, 20), (rn.toNat, 16), (rd.toNat, 12), (rs.toNat, 8), (sh.code, 5), (rm.toNat, 0)])
  | .sbcImm cond s rn rd rot imm =>
    .arm (pack 0x2c00000 [(cond.code, 28), (s.toNat, 20), (rn.toNat, 16), (rd.toNat, 12), (rot.toNat, 8), (imm.toNat, 0)])
  | .sbcShi cond s rn rd shamt sh rm =>
    .arm (pack 0xc00000 [(cond.code, 28), (s.toNat, 20), (rn.toNat, 16), (rd.toNat, 12), (shamt.toNat, 7), (sh.code, 5), (rm.toNat, 0)])
  | .sbcShr cond s rn rd rs sh rm =>
    .arm (pack 0xc00010 [(cond.code, 28), (s.toNat, 20), (rn.toNat, 16), (rd.toNat, 12), (rs.toNat, 8), (sh.code, 5), (rm.toNat, 0)])
  | .rscImm cond s rn rd rot imm =>
    .arm (pack 0x2e00000 [(cond.code, 28), (s.toNat, 20), (rn.toNat, 16), (rd.toNat, 12), (rot.toNat, 8), (imm.toNat, 0)])
  | .rscShi cond s rn rd shamt sh rm =>
    .arm (pack 0xe00000 [(cond.code, 28), (s.toNat, 20), (rn.toNat, 16), (rd.toNat, 12), (shamt.toNat, 7), (sh.code, 5), (rm.toNat, 0)])
  | .rscShr cond s rn rd rs sh rm =>
    .arm (pack 0xe00010 [(cond.code, 28), (s.toNat, 20), (rn.toNat, 16), (rd.toNat, 12), (rs.toNat, 8), (sh.code, 5), (rm.toNat, 0)])
  | .tstImm cond rn rd rot imm =>
    .arm (pack 0x3100000 [(cond.code, 28), (rn.toNat, 16), (rd.toNat, 12), (rot.toNat, 8), (imm.toNat, 0)])
  | .tstShi cond rn rd shamt sh rm =>
    .arm (pack 0x1100000 [(cond.code, 28), (rn.toNat, 16), (rd.toNat, 12), (shamt.toNat, 7), (sh.code, 5), (rm.toNat, 0)])
  | .tstShr cond rn rd rs sh rm =>
    .arm (pack 0x1100010 [(cond.code, 28), (rn.toNat, 16), (rd.toNat, 12), (rs.toNat, 8), (sh.code, 5), (rm.toNat, 0)])
  | .teqImm cond rn rd rot imm =>
    .arm (pack 0x3300000 [(cond.code, 28), (rn.toNat, 16), (rd.toNat, 12), (rot.toNat, 8), (imm.toNat, 0)])
  | .teqShi cond rn rd shamt sh rm =>
    .arm (pack 0x1300000 [(cond.code, 28), (rn.toNat, 16), (rd.toNat, 12), (shamt.toNat, 7), (sh.code, 5), (rm.toNat, 0)])
  | .teqShr cond rn rd rs sh rm =>
    .arm (pack 0x1300010 [(cond.code, 28), (rn.toNat, 16), (rd.toNat, 12), (rs.toNat, 8), (sh.code, 5), (rm.toNat, 0)])
  | .cmpImm cond rn rd rot imm =>
    .arm (pack 0x3500000 [(cond.code, 28), (rn.toNat, 16), (rd.toNat, 12), (rot.toNat, 8), (imm.toNat, 0)])
  | .cmpShi cond rn rd shamt sh rm =>
    .arm (pack 0x1500000 [(cond.code, 28), (rn.toNat, 16), (rd.toNat, 12), (shamt.toNat, 7), (sh.code, 5), (rm.toNat, 0)])
  | .cmpShr cond rn rd rs sh rm =>
    .arm (pack 0x1500010 [(cond.code, 28), (rn.toNat, 16), (rd.toNat, 12), (rs.toNat, 8), (sh.code, 5), (rm.toNat, 0)])
  | .cmnImm cond rn rd rot imm =>
    .arm (pack 0x3700000 [(cond.code, 28), (rn.toNat, 16), (rd.toNat, 12), (rot.toNat, 8), (imm.toNat, 0)])
  | .cmnShi cond rn rd shamt sh rm =>
    .arm (pack 0x1700000 [(cond.code, 28), (rn.toNat, 16), (rd.toNat, 12), (shamt.toNat, 7), (sh.code, 5), (rm.toNat, 0)])
  | .cmnShr cond rn rd rs sh rm =>
    .arm (pack 0x1700010 [(cond.code, 28), (rn.toNat, 16), (rd.toNat, 12), (rs.toNat, 8), (sh.code, 5), (rm.toNat, 0)])
  | .orrImm cond s rn rd rot imm =>
    .arm (pack 0x3800000 [(cond.code, 28), (s.toNat, 20), (rn.toNat, 16), (rd.toNat, 12), (rot.toNat, 8), (imm.toNat, 0)])
  | .orrShi cond s rn rd shamt sh rm =>
    .arm (pack 0x1800000 [(cond.code, 28), (s.toNat, 20), (rn.toNat, 16), (rd.toNat, 12), (shamt.toNat, 7), (sh.code, 5), (rm.toNat, 0)])
  | .orrShr cond s rn rd rs sh rm =>
    .arm (pack 0x1800010 [(cond.code, 28), (s.toNat, 20), (rn.toNat, 16), (rd.toNat, 12), (rs.toNat, 8), (sh.code, 5), (rm.toNat, 0)])
  | .movImm cond s rn rd rot imm =>
    .arm (pack 0x3a00000 [(cond.code, 28), (s.toNat, 20), (rn.toNat, 16), (rd.toNat, 12), (rot.toNat, 8), (imm.toNat, 0)])
  | .movShi cond s rn rd shamt sh rm =>
    .arm (pack 0x1a00000 [(cond.code, 28), (s.toNat, 20), (rn.toNat, 16), (rd.toNat, 12), (shamt.toNat, 7), (sh.code, 5), (rm.toNat, 0)])
  | .movShr cond s rn rd rs sh rm =>
    .arm (pack 0x1a00010 [(cond.code, 28), (s.toNat, 20), (rn.toNat, 16), (rd.toNat, 12), (rs.toNat, 8), (sh.code, 5), (rm.toNat, 0)])
  | .bicImm cond s rn rd rot imm =>
    .arm (pack 0x3c00000 [(cond.code, 28), (s.toNat, 20), (rn.toNat, 16), (rd.toNat, 12), (rot.toNat, 8), (imm.toNat, 0)])
  | .bicShi cond s rn rd shamt sh rm =>
    .arm (pack 0x1c00000 [(cond.code, 28), (s.toNat, 20), (rn.toNat, 16), (rd.toNat, 12), (shamt.toNat, 7), (sh.code, 5), (rm.toNat, 0)])
  | .bicShr cond s rn rd rs sh rm =>
    .arm (pack 0x1c00010 [(cond.code, 28), (s.toNat, 20), (rn.toNat, 16), (rd.toNat, 12), (rs.toNat, 8), (sh.code, 5), (rm.toNat, 0)])
  | .mvnImm cond s rn rd rot imm =>
    .arm (pack 0x3e00000 [(cond.code, 28), (s.toNat, 20), (rn.toNat, 16), (rd.toNat, 12), (rot.toNat, 8), (imm.toNat, 0)])
  | .mvnShi cond s rn rd shamt sh rm =>
    .arm (pack 0x1e00000 [(cond.code, 28), (s.toNat, 20), (rn.toNat, 16), (rd.toNat, 12), (shamt.toNat, 7), (sh.code, 5), (rm.toNat, 0)])
  | .mvnShr cond s rn rd rs sh rm =>
    .arm (pack 0x1e00010 [(cond.code, 28), (s.toNat, 20), (rn.toNat, 16), (rd.toNat, 12), (rs.toNat, 8), (sh.code, 5), (rm.toNat, 0)])
  | .ldrImm cond u w rn rd off =>
    .arm (pack 0x5100000 [(cond.code, 28), (u.toNat, 23), (w.toNat, 21), (rn.toNat, 16), (rd.toNat, 12), (off.toNat, 0)])
  | .ldrImmPost cond u rn rd off =>
    .arm (pack 0x4100000 [(cond.code, 28), (u.toNat, 23), (rn.toNat, 16), (rd.toNat, 12), (off.toNat, 0)])
  | .ldrReg cond u w rn rd shamt sh rm =>
    .arm (pack 0x7100000 [(cond.code, 28), (u.toNat, 23), (w.toNat, 21), (rn.toNat, 16), (rd.toNat, 12), (shamt.toNat, 7), (sh.code, 5), (rm.toNat, 0)])
  | .ldrRegPost cond u rn rd shamt sh rm =>
    .arm (pack 0x6100000 [(cond.code, 28), (u.toNat, 23), (rn.toNat, 16), (rd.toNat, 12), (shamt.toNat, 7), (sh.code, 5), (rm.toNat, 0)])
  | .ldrbImm cond u w rn rd off =>
    .arm (pack 0x5500000 [(cond.code, 28), (u.toNat, 23), (w.toNat, 21), (rn.toNat, 16), (rd.toNat, 12), (off.toNat, 0)])
  | .ldrbImmPost cond u rn rd off =>
    .arm (pack 0x4500000 [(cond.code, 28), (u.toNat, 23), (rn.toNat, 16), (rd.toNat, 12), (off.toNat, 0)])
  | .ldrbReg cond u w rn rd shamt sh rm =>
    .arm (pack 0x7500000 [(cond.code, 28), (u.toNat, 23), (w.toNat, 21), (rn.toNat, 16), (rd.toNat, 12), (shamt.toNat, 7), (sh.code, 5), (rm.toNat, 0)])
  | .ldrbRegPost cond u rn rd shamt sh rm =>
    .arm (pack 0x6500000 [(cond.code, 28), (u.toNat, 23), (rn.toNat, 16), (rd.toNat, 12), (shamt.toNat, 7), (sh.code, 5), (rm.toNat, 0)])
  | .strImm cond u w rn rd off =>
    .arm (pack 0x5000000 [(cond.code, 28), (u.toNat, 23), (w.toNat, 21), (rn.toNat, 16), (rd.toNat, 12), (off.toNat, 0)])
  | .strImmPost cond u rn rd off =>
    .arm (pack 0x4000000 [(cond.code, 28), (u.toNat, 23), (rn.toNat, 16), (rd.toNat, 12), (off.toNat, 0)])
  | .strReg cond u w rn rd shamt sh rm =>
    .arm (pack 0x7000000 [(cond.code, 28), (u.toNat, 23), (w.toNat, 21), (rn.toNat, 16), (rd.toNat, 12), (shamt.toNat, 7), (sh.code, 5), (rm.toNat, 0)])
  | .strRegPost cond u rn rd shamt sh rm =>
    .arm (pack 0x6000000 [(cond.code, 28), (u.toNat, 23), (rn.toNat, 16), (rd.toNat, 12), (shamt.toNat, 7), (sh.code, 5), (rm.toNat, 0)])
  | .strbImm cond u w rn rd off =>
    .arm (pack 0x5400000 [(cond.code, 28), (u.toNat, 23), (w.toNat, 21), (rn.toNat, 16), (rd.toNat, 12), (off.toNat, 0)])
  | .strbImmPost cond u rn rd off =>
    .arm (pack 0x4400000 [(cond.code, 28), (u.toNat, 23), (rn.toNat, 16), (rd.toNat, 12), (off.toNat, 0)])
  | .strbReg cond u w rn rd shamt sh rm =>
    .arm (pack 0x7400000 [(cond.code, 28), (u.toNat, 23), (w.toNat, 21), (rn.toNat, 16), (rd.toNat, 12), (shamt.toNat, 7), (sh.code, 5), (rm.toNat, 0)])
  | .strbRegPost cond u rn rd shamt sh rm =>
    .arm (pack 0x6400000 [(cond.code, 28), (u.toNat, 23), (rn.toNat, 16), (rd.toNat, 12), (shamt.toNat, 7), (sh.code, 5), (rm.toNat, 0)])
  | .ldrtImm cond u rn rd off =>
    .arm (pack 0x4300000 [(cond.code, 28), (u.toNat, 23), (rn.toNat, 16), (rd.toNat, 12), (off.toNat, 0)])
  | .ldrtReg cond u rn rd shamt sh rm =>
    .arm (pack 0x6300000 [(cond.code, 28), (u.toNat, 23), (rn.toNat, 16), (rd.toNat, 12), (shamt.toNat, 7), (sh.code, 5), (rm.toNat, 0)])
  | .ldrbtImm cond u rn rd off =>
    .arm (pack 0x4700000 [(cond.code, 28), (u.toNat, 23), (rn.toNat, 16), (rd.toNat, 12), (off.toNat, 0)])
  | .ldrbtReg cond u rn rd shamt sh rm =>
    .arm (pack 0x6700000 [(cond.code, 28), (u.toNat, 23), (rn.toNat, 16), (rd.toNat, 12), (shamt.toNat, 7), (sh.code, 5), (rm.toNat, 0)])
  | .strtImm cond u rn rd off =>
    .arm (pack 0x4200000 [(cond.code, 28), (u.toNat, 23), (rn.toNat, 16), (rd.toNat, 12), (off.toNat, 0)])
  | .strtReg cond u rn rd shamt sh rm =>
    .arm (pack 0x6200000 [(cond.code, 28), (u.toNat, 23), (rn.toNat, 16), (rd.toNat, 12), (shamt.toNat, 7), (sh.code, 5), (rm.toNat, 0)])
  | .strbtImm cond u rn rd off =>
    .arm (pack 0x4600000 [(cond.code, 28), (u.toNat, 23), (rn.toNat, 16), (rd.toNat, 12), (off.toNat, 0)])
  | .strbtReg cond u rn rd shamt sh rm =>
    .arm (pack 0x6600000 [(cond.code, 28), (u.toNat, 23), (rn.toNat, 16), (rd.toNat, 12), (shamt.toNat, 7), (sh.code, 5), (rm.toNat, 0)])
  | .undefined cond hi lo =>
    .arm (pack 0x6000010 [(cond.code, 28), (hi.toNat, 5), (lo.toNat, 0)])
  | .ldmia cond s w rn list =>
    .arm (pack 0x8900000 [(cond.code, 28), (s.toNat, 22), (w.toNat, 21), (rn.toNat, 16), (list.toNat, 0)])
  | .ldmib cond s w rn list =>
    .arm (pack 0x9900000 [(cond.code, 28), (s.toNat, 22), (w.toNat, 21), (rn.toNat, 16), (list.toNat, 0)])
  | .ldmda cond s w rn list =>
    .arm (pack 0x8100000 [(cond.code, 28), (s.toNat, 22), (w.toNat, 21), (rn.toNat, 16), (list.toNat, 0)])
  | .ldmdb cond s w rn list =>
    .arm (pack 0x9100000 [(cond.code, 28), (s.toNat, 22), (w.toNat, 21), (rn.toNat, 16), (list.toNat, 0)])
  | .stmia cond s w rn list =>
    .arm (pack 0x8800000 [(cond.code, 28), (s.toNat, 22), (w.toNat, 21), (rn.toNat, 16), (list.toNat, 0)])
  | .stmib cond s w rn list =>
    .arm (pack 0x9800000 [(cond.code, 28), (s.toNat, 22), (w.toNat, 21), (rn.toNat, 16), (list.toNat, 0)])
  | .stmda cond s w rn list =>
    .arm (pack 0x8000000 [(cond.code, 28), (s.toNat, 22), (w.toNat, 21), (rn.toNat, 16), (list.toNat, 0)])
  | .stmdb cond s w rn list =>
    .arm (pack 0x9000000 [(cond.code, 28), (s.toNat, 22), (w.toNat, 21), (rn.toNat, 16), (list.toNat, 0)])
  | .b cond off =>
    .arm (pack 0xa000000 [(cond.code, 28), (off.toNat, 0)])
  | .bl cond off =>
    .arm (pack 0xb000000 [(cond.code, 28), (off.toNat, 0)])
  | .ldc cond p u n w rn crd cpnum off =>
    .arm (pack 0xc100000 [(cond.code, 28), (p.toNat, 24), (u.toNat, 23), (n.toNat, 22), (w.toNat, 21), (rn.toNat, 16), (crd.toNat, 12), (cpnum.toNat, 8), (off.toNat, 0)])
  | .stc cond p u n w rn crd cpnum off =>
    .arm (pack 0xc000000 [(cond.code, 28), (p.toNat, 24), (u.toNat, 23), (n.toNat, 22), (w.toNat, 21), (rn.toNat, 16), (crd.toNat, 12), (cpnum.toNat, 8), (off.toNat, 0)])
  | .cdp cond op1 crn crd cpnum op2 crm =>
    .arm (pack 0xe000000 [(cond.code, 28), (op1.toNat, 20), (crn.toNat, 16), (crd.toNat, 12), (cpnum.toNat, 8), (op2.toNat, 5), (crm.toNat, 0)])
  | .mcr cond op1 crn rd cpnum op2 crm =>
    .arm (pack 0xe000010 [(cond.code, 28), (op1.toNat, 21), (crn.toNat, 16), (rd.toNat, 12), (cpnum.toNat, 8), (op2.toNat, 5), (crm.toNat, 0)])
  | .mrc cond op1 crn rd cpnum op2 crm =>
    .arm (pack 0xe100010 [(cond.code, 28), (op1.toNat, 21), (crn.toNat, 16), (rd.toNat, 12), (cpnum.toNat, 8), (op2.toNat, 5), (crm.toNat, 0)])
  | .swi cond imm =>
    .arm (pack 0xf000000 [(cond.code, 28), (imm.toNat, 0)])
  | .tLslImm rd rs amount =>
    .thumb (pack 0 [(rd.toNat, 0), (rs.toNat, 3), (amount.toNat, 6)])
  | .tLsrImm rd rs amount =>
    .thumb (pack 0x800 [(rd.toNat, 0), (rs.toNat, 3), (amount.toNat, 6)])
  | .tAsrImm rd rs amount =>
    .thumb (pack 0x1000 [(rd.toNat, 0), (rs.toNat, 3), (amount.toNat, 6)])
  | .tAddReg rd rs rn =>
    .thumb (pack 0x1800 [(rd.toNat, 0), (rs.toNat, 3), (rn.toNat, 6)])
  | .tSubReg rd rs rn =>
    .thumb (pack 0x1a00 [(rd.toNat, 0), (rs.toNat, 3), (rn.toNat, 6)])
  | .tAddImm3 rd rs imm =>
    .thumb (pack 0x1c00 [(rd.toNat, 0), (rs.toNat, 3), (imm.toNat, 6)])
  | .tSubImm3 rd rs imm =>
    .thumb (pack 0x1e00 [(rd.toNat, 0), (rs.toNat, 3), (imm.toNat, 6)])
  | .tMovImm rd imm =>
    .thumb (pack 0x2000 [(rd.toNat, 8), (imm.toNat, 0)])
  | .tCmpImm rd imm =>
    .thumb (pack 0x2800 [(rd.toNat, 8), (imm.toNat, 0)])
  | .tAddImm8 rd imm =>
    .thumb (pack 0x3000 [(rd.toNat, 8), (imm.toNat, 0)])
  | .tSubImm8 rd imm =>
    .thumb (pack 0x3800 [(rd.toNat, 8), (imm.toNat, 0)])
  | .tAnd rd rs =>
    .thumb (pack 0x4000 [(rd.toNat, 0), (rs.toNat, 3)])
  | .tEor rd rs =>
    .thumb (pack 0x4040 [(rd.toNat, 0), (rs.toNat, 3)])
  | .tLslReg rd rs =>
    .thumb (pack 0x4080 [(rd.toNat, 0), (rs.toNat, 3)])
  | .tLsrReg rd rs =>
    .thumb (pack 0x40c0 [(rd.toNat, 0), (rs.toNat, 3)])
  | .tAsrReg rd rs =>
    .thumb (pack 0x4100 [(rd.toNat, 0), (rs.toNat, 3)])
  | .tAdc rd rs =>
    .thumb (pack 0x4140 [(rd.toNat, 0), (rs.toNat, 3)])
  | .tSbc rd rs =>
    .thumb (pack 0x4180 [(rd.toNat, 0), (rs.toNat, 3)])
  | .tRorReg rd rs =>
    .thumb (pack 0x41c0 [(rd.toNat, 0), (rs.toNat, 3)])
  | .tTst rd rs =>
    .thumb (pack 0x4200 [(rd.toNat, 0), (rs.toNat, 3)])
  | .tNeg rd rs =>
    .thumb (pack 0x4240 [(rd.toNat, 0), (rs.toNat, 3)])
  | .tCmpReg rd rs =>
    .thumb (pack 0x4280 [(rd.toNat, 0), (rs.toNat, 3)])
  | .tCmn rd rs =>
    .thumb (pack 0x42c0 [(rd.toNat, 0), (rs.toNat, 3)])
  | .tOrr rd rs =>
    .thumb (pack 0x4300 [(rd.toNat, 0), (rs.toNat, 3)])
  | .tMul rd rs =>
    .thumb (pack 0x4340 [(rd.toNat, 0), (rs.toNat, 3)])
  | .tBic rd rs =>
    .thumb (pack 0x4380 [(rd.toNat, 0), (rs.toNat, 3)])
  | .tMvn rd rs =>
    .thumb (pack 0x43c0 [(rd.toNat, 0), (rs.toNat, 3)])
  | .tAddHi rd rs =>
    .thumb (pack 0x4400 [(rd.toNat / 8, 7), (rd.toNat % 8, 0), (rs.toNat, 3)])
  | .tCmpHi rd rs =>
    .thumb (pack 0x4500 [(rd.toNat / 8, 7), (rd.toNat % 8, 0), (rs.toNat, 3)])
  | .tMovHi rd rs =>
    .thumb (pack 0x4600 [(rd.toNat / 8, 7), (rd.toNat % 8, 0), (rs.toNat, 3)])
  | .tBx rs =>
    .thumb (pack 0x4700 [(rs.toNat, 3)])
  | .tLdrPc rd off =>
    .thumb (pack 0x4800 [(rd.toNat, 8), (off.toNat, 0)])
  | .tStrReg rd rb ro =>
    .thumb (pack 0x5000 [(rd.toNat, 0), (rb.toNat, 3), (ro.toNat, 6)])
  | .tStrhReg rd rb ro =>
    .thumb (pack 0x5200 [(rd.toNat, 0), (rb.toNat, 3), (ro.toNat, 6)])
  | .tStrbReg rd rb ro =>
    .thumb (pack 0x5400 [(rd.toNat, 0), (rb.toNat, 3), (ro.toNat, 6)])
  | .tLdrsbReg rd rb ro =>
    .thumb (pack 0x5600 [(rd.toNat, 0), (rb.toNat, 3), (ro.toNat, 6)])
  | .tLdrReg rd rb ro =>
    .thumb (pack 0x5800 [(rd.toNat, 0), (rb.toNat, 3), (ro.toNat, 6)])
  | .tLdrhReg rd rb ro =>
    .thumb (pack 0x5a00 [(rd.toNat, 0), (rb.toNat, 3), (ro.toNat, 6)])
  | .tLdrbReg rd rb ro =>
    .thumb (pack 0x5c00 [(rd.toNat, 0), (rb.toNat, 3), (ro.toNat, 6)])
  | .tLdrshReg rd rb ro =>
    .thumb (pack 0x5e00 [(rd.toNat, 0), (rb.toNat, 3), (ro.toNat, 6)])
  | .tStrImm rd rb off =>
    .thumb (pack 0x6000 [(rd.toNat, 0), (rb.toNat, 3), (off.toNat, 6)])
  | .tLdrImm rd rb off =>
    .thumb (pack 0x6800 [(rd.toNat, 0), (rb.toNat, 3), (off.toNat, 6)])
  | .tStrbImm rd rb off =>
    .thumb (pack 0x7000 [(rd.toNat, 0), (rb.toNat, 3), (off.toNat, 6)])
  | .tLdrbImm rd rb off =>
    .thumb (pack 0x7800 [(rd.toNat, 0), (rb.toNat, 3), (off.toNat, 6)])
  | .tStrhImm rd rb off =>
    .thumb (pack 0x8000 [(rd.toNat, 0), (rb.toNat, 3), (off.toNat, 6)])
  | .tLdrhImm rd rb off =>
    .thumb (pack 0x8800 [(rd.toNat, 0), (rb.toNat, 3), (off.toNat, 6)])
  | .tStrSp rd off =>
    .thumb (pack 0x9000 [(rd.toNat, 8), (off.toNat, 0)])
  | .tLdrSp rd off =>
    .thumb (pack 0x9800 [(rd.toNat, 8), (off.toNat, 0)])
  | .tAddPc rd off =>
    .thumb (pack 0xa000 [(rd.toNat, 8), (off.toNat, 0)])
  | .tAddSp rd off =>
    .thumb (pack 0xa800 [(rd.toNat, 8), (off.toNat, 0)])
  | .tIncSp off =>
    .thumb (pack 0xb000 [(off.toNat, 0)])
  | .tDecSp off =>
    .thumb (pack 0xb080 [(off.toNat, 0)])
  | .tPush r list =>
    .thumb (pack 0xb400 [(r.toNat, 8), (list.toNat, 0)])
  | .tPop r list =>
    .thumb (pack 0xbc00 [(r.toNat, 8), (list.toNat, 0)])
  | .tStmia rb list =>
    .thumb (pack 0xc000 [(rb.toNat, 8), (list.toNat, 0)])
  | .tLdmia rb list =>
    .thumb (pack 0xc800 [(rb.toNat, 8), (list.toNat, 0)])
  | .tBeq off =>
    .thumb (pack 0xd000 [(off.toNat, 0)])
  | .tBne off =>
    .thumb (pack 0xd100 [(off.toNat, 0)])
  | .tBcs off =>
    .thumb (pack 0xd200 [(off.toNat, 0)])
  | .tBcc off =>
    .thumb (pack 0xd300 [(off.toNat, 0)])
  | .tBmi off =>
    .thumb (pack 0xd400 [(off.toNat, 0)])
  | .tBpl off =>
    .thumb (pack 0xd500 [(off.toNat, 0)])
  | .tBvs off =>
    .thumb (pack 0xd600 [(off.toNat, 0)])
  | .tBvc off =>
    .thumb (pack 0xd700 [(off.toNat, 0)])
  | .tBhi off =>
    .thumb (pack 0xd800 [(off.toNat, 0)])
  | .tBls off =>
    .thumb (pack 0xd900 [(off.toNat, 0)])
  | .tBge off =>
    .thumb (pack 0xda00 [(off.toNat, 0)])
  | .tBlt off =>
    .thumb (pack 0xdb00 [(off.toNat, 0)])
  | .tBgt off =>
    .thumb (pack 0xdc00 [(off.toNat, 0)])
  | .tBle off =>
    .thumb (pack 0xdd00 [(off.toNat, 0)])
  | .tUndefined imm =>
    .thumb (pack 0xde00 [(imm.toNat, 0)])
  | .tSwi imm =>
    .thumb (pack 0xdf00 [(imm.toNat, 0)])
  | .tB off =>
    .thumb (pack 0xe000 [(off.toNat, 0)])
  | .tBlHi off =>
    .thumb (pack 0xf000 [(off.toNat, 0)])
  | .tBlLo off =>
    .thumb (pack 0xf800 [(off.toNat, 0)])

/-- Decoding a code as the machine does in the state that fetches it. -/
def Code.decode : Code → Except DecodeError Instr
  | .arm n => decodeArm n
  | .thumb n => decodeThumb n

end Sys2Proof
end

