-- ==== Sys2Proof/Machine/Restrictions.lean ====
section
/-! DEFINITION. Which operand combinations are refused: 93_implementation_defined.md section 2, decision D18 of
92_eei_decisions.md (log entry 13). The meanings consult these after the condition has passed. -/

namespace Sys2Proof

/-- Whether a register number names the program counter. -/
def isPc (r : Reg) : Bool := decide (r = 15#4)

/-- Whether one of the registers is r15. -/
def anyPc (rs : List Reg) : Bool := rs.any isPc

/-- The first restriction of the list that is broken. -/
def Restriction.firstOf : List (Bool × Restriction) → Option Restriction
  | [] => none
  | (b, r) :: rest => if b then some r else Restriction.firstOf rest

/-- Rule R222 for the long multiplies. -/
def Restriction.longMultiply (rdHi rdLo rs rm : Reg) : Option Restriction :=
  Restriction.firstOf [(anyPc [rdHi, rdLo, rs, rm], .multiplyPc),
    (decide (rdHi = rdLo ∨ rdHi = rm ∨ rdLo = rm), .multiplyOverlap)]

/-- Rule R319. -/
def Restriction.swap (rn rd rm : Reg) : Option Restriction :=
  Restriction.firstOf [(anyPc [rn, rd, rm], .swapPc), (decide (rn = rd ∨ rn = rm), .swapOverlap)]

/-- Rule R258: `word` holds for LDR and STR without T, `wb` for write-back, `rm` is the offset register if any. -/
def Restriction.transfer (word wb : Bool) (rn rd : Reg) (rm : Option Reg) : Option Restriction :=
  Restriction.firstOf [(wb && isPc rn, .writeBackPc), (wb && decide (rd = rn), .writeBackTransferred),
    (rm.any isPc, .offsetPc), (wb && decide (rm = some rn), .offsetIsBase), (isPc rd && !word, .transferPc)]

/-- Rules R132 and R258 for the halfword and signed transfers: post-indexed (P = 0) or W = 1 writes back. -/
def Restriction.halfword (p w : Bool) (rn rd : Reg) (rm : Option Reg) : Option Restriction :=
  if !p && w then some .postIndexedWriteBack else Restriction.transfer false (!p || w) rn rd rm

/-- Rules R203 and R204: the register of MRS or MSR. -/
def Restriction.psr (r : Reg) : Option Restriction := Restriction.firstOf [(isPc r, .psrTransferPc)]

/-- Rules R118 (c), R172 and R124 for data processing; `rs` is the register of a register-specified shift. -/
def Restriction.dataProcessing (op : DpOp) (rn rd : Reg) (rs : Option Reg) : Option Restriction :=
  Restriction.firstOf [(decide (op = .mov ∨ op = .mvn) && decide (rn ≠ 0), .shouldBeZero),
    (decide (op = .tst ∨ op = .teq ∨ op = .cmp ∨ op = .cmn) && decide (rd ≠ 0), .shouldBeZero),
    (rs.any isPc, .shiftAmountPc)]

/-- Whether register `r` is in the list of a block transfer (rule R290). -/
def inList (list : BitVec 16) (r : Reg) : Bool := list.getLsbD r.toNat

/-- Rules R296, R298 (a) and R300. -/
def Restriction.loadMultiple (s w : Bool) (rn : Reg) (list : BitVec 16) : Option Restriction :=
  Restriction.firstOf [(decide (list = 0), .emptyList), (isPc rn, .blockBasePc),
    (s && w && !inList list 15#4, .userBankWriteBack), (w && inList list rn, .loadBaseInList)]

/-- Rules R297, R298 (a) and R300: the base may be in the list with write-back only as its lowest register. -/
def Restriction.storeMultiple (s w : Bool) (rn : Reg) (list : BitVec 16) : Option Restriction :=
  Restriction.firstOf [(decide (list = 0), .emptyList), (isPc rn, .blockBasePc), (s && w, .userBankWriteBack),
    (w && inList list rn && decide (list.toNat % 2^rn.toNat ≠ 0), .storeBaseInList)]

/-- Rule R333, corner cases. -/
def Restriction.coprocessorTransfer (p w : Bool) (rn : Reg) : Option Restriction :=
  Restriction.firstOf [(!p && !w, .coprocessorUnindexed), (w && isPc rn, .coprocessorWriteBackPc)]

/-- Rule R143: format T5 needs a high register. -/
def Restriction.highRegisters (rd rs : Reg) : Option Restriction :=
  Restriction.firstOf [(decide (rd.toNat < 8 ∧ rs.toNat < 8), .lowRegisters)]

/-- The operand restriction that an instruction breaks, if any. -/
def Instr.restriction : Instr → Option Restriction
  | .bx _ _ => none
  | .mul _ _ rd rn rs rm => Restriction.firstOf [(decide (rn ≠ 0), .shouldBeZero), (anyPc [rd, rs, rm], .multiplyPc), (decide (rd = rm), .multiplyOverlap)]
  | .mla _ _ rd rn rs rm => Restriction.firstOf [(anyPc [rd, rn, rs, rm], .multiplyPc), (decide (rd = rm), .multiplyOverlap)]
  | .umull _ _ rdHi rdLo rs rm => Restriction.longMultiply rdHi rdLo rs rm
  | .umlal _ _ rdHi rdLo rs rm => Restriction.longMultiply rdHi rdLo rs rm
  | .smull _ _ rdHi rdLo rs rm => Restriction.longMultiply rdHi rdLo rs rm
  | .smlal _ _ rdHi rdLo rs rm => Restriction.longMultiply rdHi rdLo rs rm
  | .swp _ rn rd rm => Restriction.swap rn rd rm
  | .swpb _ rn rd rm => Restriction.swap rn rd rm
  | .strhReg _ p _ w rn rd rm => Restriction.halfword p w rn rd (some rm)
  | .strhImm _ p _ w rn rd _ => Restriction.halfword p w rn rd none
  | .ldrhReg _ p _ w rn rd rm => Restriction.halfword p w rn rd (some rm)
  | .ldrhImm _ p _ w rn rd _ => Restriction.halfword p w rn rd none
  | .ldrsbReg _ p _ w rn rd rm => Restriction.halfword p w rn rd (some rm)
  | .ldrsbImm _ p _ w rn rd _ => Restriction.halfword p w rn rd none
  | .ldrshReg _ p _ w rn rd rm => Restriction.halfword p w rn rd (some rm)
  | .ldrshImm _ p _ w rn rd _ => Restriction.halfword p w rn rd none
  | .mrs _ _ rd => Restriction.psr rd
  | .msrReg _ _ _ rm => Restriction.psr rm
  | .msrImm _ _ _ _ _ => none
  | .andImm _ _ rn rd _ _ => Restriction.dataProcessing .and rn rd none
  | .andShi _ _ rn rd _ _ _ => Restriction.dataProcessing .and rn rd none
  | .andShr _ _ rn rd rs _ _ => Restriction.dataProcessing .and rn rd (some rs)
  | .eorImm _ _ rn rd _ _ => Restriction.dataProcessing .eor rn rd none
  | .eorShi _ _ rn rd _ _ _ => Restriction.dataProcessing .eor rn rd none
  | .eorShr _ _ rn rd rs _ _ => Restriction.dataProcessing .eor rn rd (some rs)
  | .subImm _ _ rn rd _ _ => Restriction.dataProcessing .sub rn rd none
  | .subShi _ _ rn rd _ _ _ => Restriction.dataProcessing .sub rn rd none
  | .subShr _ _ rn rd rs _ _ => Restriction.dataProcessing .sub rn rd (some rs)
  | .rsbImm _ _ rn rd _ _ => Restriction.dataProcessing .rsb rn rd none
  | .rsbShi _ _ rn rd _ _ _ => Restriction.dataProcessing .rsb rn rd none
  | .rsbShr _ _ rn rd rs _ _ => Restriction.dataProcessing .rsb rn rd (some rs)
  | .addImm _ _ rn rd _ _ => Restriction.dataProcessing .add rn rd none
  | .addShi _ _ rn rd _ _ _ => Restriction.dataProcessing .add rn rd none
  | .addShr _ _ rn rd rs _ _ => Restriction.dataProcessing .add rn rd (some rs)
  | .adcImm _ _ rn rd _ _ => Restriction.dataProcessing .adc rn rd none
  | .adcShi _ _ rn rd _ _ _ => Restriction.dataProcessing .adc rn rd none
  | .adcShr _ _ rn rd rs _ _ => Restriction.dataProcessing .adc rn rd (some rs)
  | .sbcImm _ _ rn rd _ _ => Restriction.dataProcessing .sbc rn rd none
  | .sbcShi _ _ rn rd _ _ _ => Restriction.dataProcessing .sbc rn rd none
  | .sbcShr _ _ rn rd rs _ _ => Restriction.dataProcessing .sbc rn rd (some rs)
  | .rscImm _ _ rn rd _ _ => Restriction.dataProcessing .rsc rn rd none
  | .rscShi _ _ rn rd _ _ _ => Restriction.dataProcessing .rsc rn rd none
  | .rscShr _ _ rn rd rs _ _ => Restriction.dataProcessing .rsc rn rd (some rs)
  | .tstImm _ rn rd _ _ => Restriction.dataProcessing .tst rn rd none
  | .tstShi _ rn rd _ _ _ => Restriction.dataProcessing .tst rn rd none
  | .tstShr _ rn rd rs _ _ => Restriction.dataProcessing .tst rn rd (some rs)
  | .teqImm _ rn rd _ _ => Restriction.dataProcessing .teq rn rd none
  | .teqShi _ rn rd _ _ _ => Restriction.dataProcessing .teq rn rd none
  | .teqShr _ rn rd rs _ _ => Restriction.dataProcessing .teq rn rd (some rs)
  | .cmpImm _ rn rd _ _ => Restriction.dataProcessing .cmp rn rd none
  | .cmpShi _ rn rd _ _ _ => Restriction.dataProcessing .cmp rn rd none
  | .cmpShr _ rn rd rs _ _ => Restriction.dataProcessing .cmp rn rd (some rs)
  | .cmnImm _ rn rd _ _ => Restriction.dataProcessing .cmn rn rd none
  | .cmnShi _ rn rd _ _ _ => Restriction.dataProcessing .cmn rn rd none
  | .cmnShr _ rn rd rs _ _ => Restriction.dataProcessing .cmn rn rd (some rs)
  | .orrImm _ _ rn rd _ _ => Restriction.dataProcessing .orr rn rd none
  | .orrShi _ _ rn rd _ _ _ => Restriction.dataProcessing .orr rn rd none
  | .orrShr _ _ rn rd rs _ _ => Restriction.dataProcessing .orr rn rd (some rs)
  | .movImm _ _ rn rd _ _ => Restriction.dataProcessing .mov rn rd none
  | .movShi _ _ rn rd _ _ _ => Restriction.dataProcessing .mov rn rd none
  | .movShr _ _ rn rd rs _ _ => Restriction.dataProcessing .mov rn rd (some rs)
  | .bicImm _ _ rn rd _ _ => Restriction.dataProcessing .bic rn rd none
  | .bicShi _ _ rn rd _ _ _ => Restriction.dataProcessing .bic rn rd none
  | .bicShr _ _ rn rd rs _ _ => Restriction.dataProcessing .bic rn rd (some rs)
  | .mvnImm _ _ rn rd _ _ => Restriction.dataProcessing .mvn rn rd none
  | .mvnShi _ _ rn rd _ _ _ => Restriction.dataProcessing .mvn rn rd none
  | .mvnShr _ _ rn rd rs _ _ => Restriction.dataProcessing .mvn rn rd (some rs)
  | .ldrImm _ _ w rn rd _ => Restriction.transfer true w rn rd none
  | .ldrImmPost _ _ rn rd _ => Restriction.transfer true true rn rd none
  | .ldrReg _ _ w rn rd _ _ rm => Restriction.transfer true w rn rd (some rm)
  | .ldrRegPost _ _ rn rd _ _ rm => Restriction.transfer true true rn rd (some rm)
  | .ldrbImm _ _ w rn rd _ => Restriction.transfer false w rn rd none
  | .ldrbImmPost _ _ rn rd _ => Restriction.transfer false true rn rd none
  | .ldrbReg _ _ w rn rd _ _ rm => Restriction.transfer false w rn rd (some rm)
  | .ldrbRegPost _ _ rn rd _ _ rm => Restriction.transfer false true rn rd (some rm)
  | .strImm _ _ w rn rd _ => Restriction.transfer true w rn rd none
  | .strImmPost _ _ rn rd _ => Restriction.transfer true true rn rd none
  | .strReg _ _ w rn rd _ _ rm => Restriction.transfer true w rn rd (some rm)
  | .strRegPost _ _ rn rd _ _ rm => Restriction.transfer true true rn rd (some rm)
  | .strbImm _ _ w rn rd _ => Restriction.transfer false w rn rd none
  | .strbImmPost _ _ rn rd _ => Restriction.transfer false true rn rd none
  | .strbReg _ _ w rn rd _ _ rm => Restriction.transfer false w rn rd (some rm)
  | .strbRegPost _ _ rn rd _ _ rm => Restriction.transfer false true rn rd (some rm)
  | .ldrtImm _ _ rn rd _ => Restriction.transfer false true rn rd none
  | .ldrtReg _ _ rn rd _ _ rm => Restriction.transfer false true rn rd (some rm)
  | .ldrbtImm _ _ rn rd _ => Restriction.transfer false true rn rd none
  | .ldrbtReg _ _ rn rd _ _ rm => Restriction.transfer false true rn rd (some rm)
  | .strtImm _ _ rn rd _ => Restriction.transfer false true rn rd none
  | .strtReg _ _ rn rd _ _ rm => Restriction.transfer false true rn rd (some rm)
  | .strbtImm _ _ rn rd _ => Restriction.transfer false true rn rd none
  | .strbtReg _ _ rn rd _ _ rm => Restriction.transfer false true rn rd (some rm)
  | .undefined _ _ _ => none
  | .ldmia _ s w rn list => Restriction.loadMultiple s w rn list
  | .ldmib _ s w rn list => Restriction.loadMultiple s w rn list
  | .ldmda _ s w rn list => Restriction.loadMultiple s w rn list
  | .ldmdb _ s w rn list => Restriction.loadMultiple s w rn list
  | .stmia _ s w rn list => Restriction.storeMultiple s w rn list
  | .stmib _ s w rn list => Restriction.storeMultiple s w rn list
  | .stmda _ s w rn list => Restriction.storeMultiple s w rn list
  | .stmdb _ s w rn list => Restriction.storeMultiple s w rn list
  | .b _ _ => none
  | .bl _ _ => none
  | .ldc _ p _ _ w rn _ _ _ => Restriction.coprocessorTransfer p w rn
  | .stc _ p _ _ w rn _ _ _ => Restriction.coprocessorTransfer p w rn
  | .cdp _ _ _ _ _ _ _ => none
  | .mcr _ _ _ rd _ _ _ => Restriction.firstOf [(isPc rd, .mcrPc)]
  | .mrc _ _ _ _ _ _ _ => none
  | .swi _ _ => none
  | .tLslImm _ _ _ => none
  | .tLsrImm _ _ _ => none
  | .tAsrImm _ _ _ => none
  | .tAddReg _ _ _ => none
  | .tSubReg _ _ _ => none
  | .tAddImm3 _ _ _ => none
  | .tSubImm3 _ _ _ => none
  | .tMovImm _ _ => none
  | .tCmpImm _ _ => none
  | .tAddImm8 _ _ => none
  | .tSubImm8 _ _ => none
  | .tAnd _ _ => none
  | .tEor _ _ => none
  | .tLslReg _ _ => none
  | .tLsrReg _ _ => none
  | .tAsrReg _ _ => none
  | .tAdc _ _ => none
  | .tSbc _ _ => none
  | .tRorReg _ _ => none
  | .tTst _ _ => none
  | .tNeg _ _ => none
  | .tCmpReg _ _ => none
  | .tCmn _ _ => none
  | .tOrr _ _ => none
  | .tMul rd rs => Restriction.firstOf [(decide (rd = rs), .multiplyOverlap)]
  | .tBic _ _ => none
  | .tMvn _ _ => none
  | .tAddHi rd rs => Restriction.highRegisters rd rs
  | .tCmpHi rd rs => Restriction.highRegisters rd rs
  | .tMovHi rd rs => Restriction.highRegisters rd rs
  | .tBx _ => none
  | .tLdrPc _ _ => none
  | .tStrReg _ _ _ => none
  | .tStrhReg _ _ _ => none
  | .tStrbReg _ _ _ => none
  | .tLdrsbReg _ _ _ => none
  | .tLdrReg _ _ _ => none
  | .tLdrhReg _ _ _ => none
  | .tLdrbReg _ _ _ => none
  | .tLdrshReg _ _ _ => none
  | .tStrImm _ _ _ => none
  | .tLdrImm _ _ _ => none
  | .tStrbImm _ _ _ => none
  | .tLdrbImm _ _ _ => none
  | .tStrhImm _ _ _ => none
  | .tLdrhImm _ _ _ => none
  | .tStrSp _ _ => none
  | .tLdrSp _ _ => none
  | .tAddPc _ _ => none
  | .tAddSp _ _ => none
  | .tIncSp _ => none
  | .tDecSp _ => none
  | .tPush r list => Restriction.firstOf [(decide (list = 0) && !r, .emptyList)]
  | .tPop r list => Restriction.firstOf [(decide (list = 0) && !r, .emptyList)]
  | .tStmia rb list => Restriction.storeMultiple false true rb.reg (list.setWidth 16)
  | .tLdmia rb list => Restriction.loadMultiple false true rb.reg (list.setWidth 16)
  | .tBeq _ => none
  | .tBne _ => none
  | .tBcs _ => none
  | .tBcc _ => none
  | .tBmi _ => none
  | .tBpl _ => none
  | .tBvs _ => none
  | .tBvc _ => none
  | .tBhi _ => none
  | .tBls _ => none
  | .tBge _ => none
  | .tBlt _ => none
  | .tBgt _ => none
  | .tBle _ => none
  | .tUndefined _ => none
  | .tSwi _ => none
  | .tB _ => none
  | .tBlHi _ => none
  | .tBlLo _ => none

end Sys2Proof
end

