-- ==== Sys2Proof/Machine/Ops.lean ====
section
/-! DEFINITION. The operations every meaning is made of: registers and their banks, the program counter, the status
registers, taking an exception and returning from one, memory accesses, and the gate every instruction passes. -/

namespace Sys2Proof.Machine

/-- What a meaning answers. -/
abbrev Result := Host.Outcome State Fault Refusal

/-! ## Modes and registers -/

/-- M[4:0] of a mode, rule R21 of 10_state.md. -/
def Mode.bits : Mode → BitVec 5
  | .usr => 0b10000#5 | .fiq => 0b10001#5 | .irq => 0b10010#5 | .svc => 0b10011#5
  | .abt => 0b10111#5 | .und => 0b11011#5 | .sys => 0b11111#5

/-- The mode of M[4:0]; none for the illegal values of rule R41 of 10_state.md. -/
def Mode.ofBits (m : BitVec 5) : Option Mode :=
  if m = 0b10000#5 then some .usr else if m = 0b10001#5 then some .fiq else if m = 0b10010#5 then some .irq
  else if m = 0b10011#5 then some .svc else if m = 0b10111#5 then some .abt else if m = 0b11011#5 then some .und
  else if m = 0b11111#5 then some .sys else none

/-- The current mode. Where M[4:0] is illegal no instruction executes (rule R41) and this is not asked. -/
def State.mode (s : State) : Mode := (Mode.ofBits s.cpsr.m).getD .usr

/-- Whether the core is in a privileged mode: nTRANS is 0 exactly in User mode (rule R86 of 20_memory.md). -/
def State.isPriv (s : State) : Bool := decide (s.cpsr.m ≠ Mode.usr.bits)

/-- The User-bank register of a number, r0 to r14 (rule R24 of 10_state.md). -/
def physUsr (n : Nat) : PhysReg :=
  match n with
  | 0 => .r0 | 1 => .r1 | 2 => .r2 | 3 => .r3 | 4 => .r4 | 5 => .r5 | 6 => .r6 | 7 => .r7
  | 8 => .r8 | 9 => .r9 | 10 => .r10 | 11 => .r11 | 12 => .r12 | 13 => .r13 | _ => .r14

/-- The physical register that register number `n` names in a mode; none for r15 (rule R24 of 10_state.md). -/
def phys (m : Mode) (n : Reg) : Option PhysReg :=
  match m, n.toNat with
  | _, 15 => none
  | .fiq, 8 => some .r8Fiq | .fiq, 9 => some .r9Fiq | .fiq, 10 => some .r10Fiq | .fiq, 11 => some .r11Fiq
  | .fiq, 12 => some .r12Fiq | .fiq, 13 => some .r13Fiq | .fiq, 14 => some .r14Fiq
  | .irq, 13 => some .r13Irq | .irq, 14 => some .r14Irq
  | .svc, 13 => some .r13Svc | .svc, 14 => some .r14Svc
  | .abt, 13 => some .r13Abt | .abt, 14 => some .r14Abt
  | .und, 13 => some .r13Und | .und, 14 => some .r14Und
  | _, k => some (physUsr k)

/-- Reading a physical register. -/
def RegFile.get (f : RegFile) : PhysReg → Word
  | .r0 => f.r0
  | .r1 => f.r1
  | .r2 => f.r2
  | .r3 => f.r3
  | .r4 => f.r4
  | .r5 => f.r5
  | .r6 => f.r6
  | .r7 => f.r7
  | .r8 => f.r8
  | .r9 => f.r9
  | .r10 => f.r10
  | .r11 => f.r11
  | .r12 => f.r12
  | .r8Fiq => f.r8Fiq
  | .r9Fiq => f.r9Fiq
  | .r10Fiq => f.r10Fiq
  | .r11Fiq => f.r11Fiq
  | .r12Fiq => f.r12Fiq
  | .r13 => f.r13
  | .r14 => f.r14
  | .r13Fiq => f.r13Fiq
  | .r14Fiq => f.r14Fiq
  | .r13Irq => f.r13Irq
  | .r14Irq => f.r14Irq
  | .r13Svc => f.r13Svc
  | .r14Svc => f.r14Svc
  | .r13Abt => f.r13Abt
  | .r14Abt => f.r14Abt
  | .r13Und => f.r13Und
  | .r14Und => f.r14Und

/-- Writing a physical register. -/
def RegFile.set (f : RegFile) (p : PhysReg) (v : Word) : RegFile :=
  match p with
  | .r0 => { f with r0 := v }
  | .r1 => { f with r1 := v }
  | .r2 => { f with r2 := v }
  | .r3 => { f with r3 := v }
  | .r4 => { f with r4 := v }
  | .r5 => { f with r5 := v }
  | .r6 => { f with r6 := v }
  | .r7 => { f with r7 := v }
  | .r8 => { f with r8 := v }
  | .r9 => { f with r9 := v }
  | .r10 => { f with r10 := v }
  | .r11 => { f with r11 := v }
  | .r12 => { f with r12 := v }
  | .r8Fiq => { f with r8Fiq := v }
  | .r9Fiq => { f with r9Fiq := v }
  | .r10Fiq => { f with r10Fiq := v }
  | .r11Fiq => { f with r11Fiq := v }
  | .r12Fiq => { f with r12Fiq := v }
  | .r13 => { f with r13 := v }
  | .r14 => { f with r14 := v }
  | .r13Fiq => { f with r13Fiq := v }
  | .r14Fiq => { f with r14Fiq := v }
  | .r13Irq => { f with r13Irq := v }
  | .r14Irq => { f with r14Irq := v }
  | .r13Svc => { f with r13Svc := v }
  | .r14Svc => { f with r14Svc := v }
  | .r13Abt => { f with r13Abt := v }
  | .r14Abt => { f with r14Abt := v }
  | .r13Und => { f with r13Und := v }
  | .r14Und => { f with r14Und := v }

/-- L: the length of an instruction, 4 bytes in ARM state and 2 in Thumb state (rule R33 of 10_state.md). -/
def State.len (s : State) : Word := if s.cpsr.t then 2 else 4

/-- Register `n` of a mode's view where r15 reads as `pcv`. -/
def State.regView (s : State) (m : Mode) (pcv : Word) (n : Reg) : Word :=
  match phys m n with
  | some p => s.regs.get p
  | none => pcv

/-- The value an instruction reads from r15: two instructions ahead (rule R32 of 10_state.md). -/
def State.pcRead (s : State) : Word := s.pc + 2 * s.len

/-- `R[n]` (rule R13 of 00_scope.md). -/
def State.reg (s : State) (n : Reg) : Word := s.regView s.mode s.pcRead n

/-- `R[n]` where r15 reads three instructions ahead: with a register-specified shift (rule R124 of 30_encoding.md) and in a
store (rules R270 and R301, `StorePcOffset` = 12). -/
def State.regAhead (s : State) (n : Reg) : Word := s.regView s.mode (s.pc + 12) n

/-- `pc <- target`: the low bits dropped by the state after the write, the prefetched instructions discarded (rule R34 of
10_state.md); both instructions fetched next carry the present privilege (rule R98 of 20_memory.md). -/
def State.branchTo (s : State) (target : Word) : State :=
  { s with
    pc := if s.cpsr.t then target &&& 0xFFFFFFFE#32 else target &&& 0xFFFFFFFC#32
    fetchPriv := s.isPriv
    nextFetchPriv := s.isPriv }

/-- Writing the physical register of a mode's view; a number that names r15 writes nothing here. -/
def State.setIn (s : State) (m : Mode) (n : Reg) (v : Word) : State :=
  match phys m n with
  | some p => { s with regs := s.regs.set p v }
  | none => s

/-- `R[n] <- v` for n other than 15 (rule R13 of 00_scope.md); a write of r15 is `State.branchTo`. -/
def State.setReg (s : State) (n : Reg) (v : Word) : State := s.setIn s.mode n v

/-! ## The end of an instruction -/

/-- Sequential advance (rule R33 of 10_state.md): refused where the next address wraps (decision D11). In debug state the
program counter only counts (rule R562 of 61_debug.md) and may wrap. -/
def State.advance (s : State) : Result :=
  if 2^32 ≤ s.pc.toNat + s.len.toNat ∧ s.dbg.inDebug = false then .refused .addressWrap
  else .next { s with pc := s.pc + s.len }

/-- `R[n] <- v` as the last effect of an instruction: r15 is a branch, another register is followed by the advance. -/
def State.writeAndAdvance (s : State) (n : Reg) (v : Word) : Result :=
  if isPc n then .next (s.branchTo v) else (s.setReg n v).advance

/-! ## Free values -/

/-- The next free bit. -/
def State.freeBit (s : State) : Bool := Config.freeBit s.free

/-- The next free word. -/
def State.freeWord (s : State) : Word := Config.freeWord s.free

/-- The state after a free value has been drawn. -/
def State.drawn (s : State) : State := { s with free := s.free + 1 }

/-! ## Status registers -/

/-- The 32 bits of a program status register (rule R37 of 10_state.md). -/
def Psr.toWord (p : Psr) : Word :=
  BitVec.ofBool p.n ++ BitVec.ofBool p.z ++ BitVec.ofBool p.c ++ BitVec.ofBool p.v ++ p.reserved ++ BitVec.ofBool p.i ++
    BitVec.ofBool p.f ++ BitVec.ofBool p.t ++ p.m

/-- The saved program status register of a mode; User and System have none (rule R36 of 10_state.md). -/
def SpsrFile.get (f : SpsrFile) : Mode → Option Psr
  | .fiq => some f.fiq | .irq => some f.irq | .svc => some f.svc | .abt => some f.abt | .und => some f.und
  | .usr => none | .sys => none

/-- Writing the saved program status register of a mode. -/
def SpsrFile.set (f : SpsrFile) (m : Mode) (p : Psr) : SpsrFile :=
  match m with
  | .fiq => { f with fiq := p }
  | .irq => { f with irq := p }
  | .svc => { f with svc := p }
  | .abt => { f with abt := p }
  | .und => { f with und := p }
  | .usr => f
  | .sys => f

/-! ## Taking an exception and returning from one -/

/-- The exceptions other than Reset, rule R530 of 60_exceptions.md. -/
inductive Exc where
  | und | swi | pabt | dabt | irq | fiq
  deriving DecidableEq, Repr

/-- The mode an exception enters (rule R500 of 60_exceptions.md). -/
def Exc.mode : Exc → Mode
  | .und => .und | .swi => .svc | .pabt => .abt | .dabt => .abt | .irq => .irq | .fiq => .fiq

/-- The vector of an exception (rule R91 of 20_memory.md). -/
def Exc.vector : Exc → Word
  | .und => 0x4#32 | .swi => 0x8#32 | .pabt => 0xC#32 | .dabt => 0x10#32 | .irq => 0x18#32 | .fiq => 0x1C#32

/-- `LinkValue(E)` with `pc` the instruction that causes the exception, or for FIQ and IRQ the instruction not executed
(rule R531 of 60_exceptions.md). -/
def State.link (s : State) : Exc → Word
  | .und => s.pc + s.len
  | .swi => s.pc + s.len
  | .pabt => s.pc + 4
  | .dabt => s.pc + 8
  | .irq => s.pc + 4
  | .fiq => s.pc + 4

/-- The common entry sequence, rule R530 of 60_exceptions.md: r14 and SPSR of the new mode save the link and the CPSR; the
mode changes, T is cleared, I is set, F is set by FIQ; execution goes on at the vector. -/
def State.takeException (s : State) (e : Exc) : State :=
  let saved : State :=
    { s with
      regs := (s.setIn e.mode 14#4 (s.link e)).regs
      spsr := s.spsr.set e.mode s.cpsr
      cpsr := { s.cpsr with m := e.mode.bits, t := false, i := true, f := s.cpsr.f || decide (e = .fiq) }
      usrLdm := false
      waiting := none
      dbg := { s.dbg with entered := true } }
  saved.branchTo e.vector

/-- The return from an exception: `CPSR <- SPSR`, then `pc <- target` under the new T (rules R171 and R535). In User and
System mode there is no SPSR: refused (rule R36 of 10_state.md). -/
def State.returnTo (s : State) (target : Word) : Result :=
  match s.spsr.get s.mode with
  | some p => .next (({ s with cpsr := p } : State).branchTo target)
  | none => .refused .noSpsr

/-! ## Memory accesses -/

/-- The answer of one access: a value, a Data Abort, or a refusal. -/
inductive Access (α : Type) where
  | ok (v : α) (s : State)
  | abort (s : State)
  | refused (r : Refusal)

/-- Whether an access rule covers an access. -/
def AccessRule.covers (r : AccessRule) (a : Nat) (z : Size) (k : AccessKind) (priv : Bool) : Bool :=
  decide (r.lo ≤ a) && decide (a ≤ r.hi) && r.sizes.contains z && r.kinds.contains k && r.privs.contains priv

/-- What the memory map holds at an address; none where it is unmapped (rule R92 of 20_memory.md). An access is asked about at
its aligned address, the first of its bytes, also where its bytes lie in two regions: DESIGN CHOICE, unsafe (log entry 46). -/
def Env.region (e : Env) (a : Nat) : Option RegionKind :=
  (e.map.find? (fun r => decide (r.lo ≤ a) && decide (a ≤ r.hi))).map Region.kind

/-- The abort predicate of rule R83 of 20_memory.md: the rules, and unmapped addresses by default (decision D4). -/
def Env.aborting (e : Env) (a : Nat) (z : Size) (k : AccessKind) (priv : Bool) : Bool :=
  e.aborts.any (fun r => r.covers a z k priv) || (e.params.unmappedAborts && (e.region a).isNone)

/-- The record of a bus access with the attributes of rule R72 of 20_memory.md; the address is driven as the instruction
computed it, the memory system ignores its low bits (rule R76). The core makes accesses only while its own DBGACK is LOW, so the
output DBGACK is bit 0 of the debug control register (rules R48 of 10_state.md and R561 (h) of 61_debug.md). nM[4:0] is the mode at
execution, also on a fetch that was made before a mode change: DESIGN CHOICE, unsafe (log entry 53). -/
def State.access (s : State) (a : Word) (z : Size) (k : AccessKind) (priv lock : Bool) (d : Word) (aborted device : Bool) :
    BusAccess :=
  { addr := a, size := z, kind := k, priv := priv, lock := lock, thumb := s.cpsr.t, mode := ~~~ s.cpsr.m, data := d,
    aborted := aborted, device := device, dbgack := s.ice.control.getLsbD 0 }

/-- The state after a bus access has been made. -/
def State.logged (s : State) (x : BusAccess) : State := { s with bus := s.bus ++ [x] }

/-- Whether an access to the address is to a device region. -/
def State.isDevice (s : State) (a : Word) : Bool := decide (s.env.region a.toNat = some .device)

/-- Reading a device (rule R87 of 20_memory.md): its next answer, a free value where it has none left. -/
def State.deviceRead (s : State) (z : Size) : Word × State :=
  match s.env.devIn with
  | w :: rest => (w &&& (BitVec.ofNat 32 (2^(8 * z.bytes) - 1)), { s with env := { s.env with devIn := rest } })
  | [] => (s.freeWord &&& (BitVec.ofNat 32 (2^(8 * z.bytes) - 1)), s.drawn)

/-- The value of a read that does not abort, the data bus it came on, and the state after it (rule R80 of 20_memory.md;
unmapped: any value, rule R92). -/
def State.readValue (s : State) (a : Word) (z : Size) : Word × Word × State :=
  match s.env.region a.toNat with
  | some .device =>
    let r := s.deviceRead z
    (r.1, replicate z r.1, r.2)
  | none => (lane s.env.params.bigend z a s.freeWord, s.freeWord, s.drawn)
  | some _ => (s.mem.value s.env.params.bigend z a, s.mem.word s.env.params.bigend (Size.word.align a), s)

/-- `MemRead` of rule R80 of 20_memory.md: one bus access at the aligned address. In debug state at debug speed the datum is
the next word that the debugger scans in, no access is made (rule R561 of 61_debug.md) and aborts are ignored (rule R102). -/
def State.dataRead (s : State) (addr : Word) (z : Size) (priv lock : Bool) : Access Word :=
  let a := z.align addr
  match s.dbg.feed with
  | some ws =>
    .ok (lane s.env.params.bigend z a (ws.headD s.freeWord)) { s with dbg := { s.dbg with feed := some ws.tail } }
  | none =>
    if s.env.aborting a.toNat z .read priv then
      .abort (s.drawn.logged (s.access addr z .read priv lock s.freeWord true false))
    else
      let r := s.readValue a z
      .ok r.1 (r.2.2.logged (s.access addr z .read priv lock r.2.1 false (s.isDevice a)))

/-- Whether a store to n bytes at `a` writes into the two slots after the storing instruction (rule R98 of 20_memory.md). -/
def State.inCodeWindow (s : State) (a : Word) (z : Size) : Bool :=
  (List.range z.bytes).any (fun i => decide ((a + BitVec.ofNat 32 i - (s.pc + s.len)).toNat < 2 * s.len.toNat))

/-- Memory after a store that does not abort: read-only storage ignores it, an unmapped address loses it, a device keeps it
to itself (rule R92 of 20_memory.md). -/
def State.stored (s : State) (a : Word) (z : Size) (v : Word) : Memory :=
  if s.env.region a.toNat = some .storage then s.mem.store s.env.params.bigend z a v else s.mem

/-- `MemWrite` of rule R81 of 20_memory.md: one bus access at the aligned address. At debug speed the datum goes out on scan
chain 1, no access is made (rule R561 of 61_debug.md) and aborts are ignored (rule R102). -/
def State.dataWrite (s : State) (addr : Word) (z : Size) (v : Word) (priv lock : Bool) : Access Unit :=
  let a := z.align addr
  match s.dbg.feed with
  | some _ => .ok () { s with dbg := { s.dbg with captured := s.dbg.captured ++ [replicate z v] } }
  | none =>
    if s.env.aborting a.toNat z .write priv then
      .abort (s.logged (s.access addr z .write priv lock (replicate z v) true false))
    else if s.inCodeWindow a z ∧ s.dbg.inDebug = false then .refused .codeWindow
    else
      .ok () (({ s with mem := s.stored a z v } : State).logged
        (s.access addr z .write priv lock (replicate z v) false (s.isDevice a)))

/-- Whether a load at a misaligned address is refused (rule R79 of 20_memory.md, decision D2): halfwords always, words
unless `Misaligned = armv4t`. -/
def State.loadMisaligned (s : State) (addr : Word) (z : Size) : Bool :=
  !z.aligned addr && (decide (z = .half) || decide (s.env.params.misaligned = .refuse))

/-- As `loadMisaligned` for a store or a block transfer, whose words do not depend on the low address bits: at debug speed
no address reaches memory (rule R561 of 61_debug.md). -/
def State.busMisaligned (s : State) (addr : Word) (z : Size) : Bool :=
  s.loadMisaligned addr z && s.dbg.feed.isNone

/-- k word reads at ascending addresses (rule R100 of 20_memory.md): the words before the first abort, whether one aborted,
and the state after all k accesses (rule R295 of 44_block_transfer.md). -/
def State.readBurst (priv : Bool) : Nat → Word → State → Except Refusal (List Word × Bool × State)
  | 0, _, s => .ok ([], false, s)
  | k + 1, a, s =>
    match s.dataRead a .word priv false with
    | .refused r => .error r
    | .ok v s1 =>
      match State.readBurst priv k (a + 4) s1 with
      | .error r => .error r
      | .ok (vs, ab, s2) => .ok (v :: vs, ab, s2)
    | .abort s1 =>
      match State.readBurst priv k (a + 4) s1 with
      | .error r => .error r
      | .ok (_, _, s2) => .ok ([], true, s2)

/-- Word writes at ascending addresses (rule R100 of 20_memory.md): whether one aborted, and the state after all of them
(rule R295 of 44_block_transfer.md). -/
def State.writeBurst (priv : Bool) : List Word → Word → State → Except Refusal (Bool × State)
  | [], _, s => .ok (false, s)
  | v :: vs, a, s =>
    match s.dataWrite a .word v priv false with
    | .refused r => .error r
    | .ok _ s1 => State.writeBurst priv vs (a + 4) s1
    | .abort s1 =>
      match State.writeBurst priv vs (a + 4) s1 with
      | .error r => .error r
      | .ok (_, s2) => .ok (true, s2)

/-! ## The gate of every instruction -/

/-- `ConditionPassed`, rule R113 of 30_encoding.md; code 1111 never passes here, the gate refuses it. -/
def conditionPassed (p : Psr) : Cond → Bool
  | .eq => p.z
  | .ne => !p.z
  | .cs => p.c
  | .cc => !p.c
  | .mi => p.n
  | .pl => !p.n
  | .vs => p.v
  | .vc => !p.v
  | .hi => p.c && !p.z
  | .ls => !p.c || p.z
  | .ge => p.n == p.v
  | .lt => p.n != p.v
  | .gt => !p.z && (p.n == p.v)
  | .le => p.z || (p.n != p.v)
  | .al => true
  | .nv => false

/-- The state in which an instruction acts: the instruction two slots ahead is fetched with the present privilege (rule R98
of 20_memory.md), a User-bank LDM before it is past, and it waits for no coprocessor any more. -/
def State.begun (s : State) : State :=
  { s with usrLdm := false, waiting := none, fetchPriv := s.nextFetchPriv, nextFetchPriv := s.isPriv }

/-- The hazard of rule R620 of 70_reset_and_hazards.md: after a User-bank LDM, outside User and System mode, the next
instruction reads one of r8 to r14. -/
def State.hazard (s : State) (reads : List Reg) : Bool :=
  s.usrLdm && decide (s.mode ≠ .usr) && decide (s.mode ≠ .sys) &&
    reads.any (fun r => decide (8 ≤ r.toNat) && decide (r.toNat ≤ 14))

/-- An ARM instruction: refused with condition 1111 (R114); nothing but the advance where the condition fails (R113); then
the restrictions of decision D18, the hazard of R620, and its own effect. An illegal mode executes nothing (R41). -/
def runArm (cond : Cond) (restriction : Option Restriction) (reads : List Reg) (s : State) (effect : State → Result) : Result :=
  if Mode.ofBits s.cpsr.m = none then .fault .illegalMode
  else if cond = .nv then .refused .condNever
  else if conditionPassed s.cpsr cond then
    match restriction with
    | some r => .refused (.operands r)
    | none => if s.hazard reads then .refused .userBankHazard else effect s.begun
  else s.begun.advance

/-- A Thumb instruction: as `runArm` without a condition (rule R112 of 30_encoding.md). -/
def runThumb (restriction : Option Restriction) (reads : List Reg) (s : State) (effect : State → Result) : Result :=
  runArm .al restriction reads s effect

end Sys2Proof.Machine
end

