-- ==== Sys2Proof/Machine/Flags.lean ====
section
/-! DEFINITION. The arithmetic and the flag computations of the data-processing and multiply instructions (rule R171 of
40_data_processing.md, rule R221 of 41_multiply.md). -/

namespace Sys2Proof.Machine

/-- A result with the carry and overflow that go with it. -/
structure Sum where
  result : Word
  carry : Bool
  overflow : Bool
  deriving DecidableEq, Repr

/-- `AddWithCarry` of rule R171 of 40_data_processing.md, over unbounded integers. -/
def addWithCarry (x y : Word) (cin : Bool) : Sum :=
  let usum : Nat := x.toNat + y.toNat + cin.toNat
  let ssum : Int := x.toInt + y.toInt + (cin.toNat : Int)
  { result := BitVec.ofNat 32 usum
    carry := decide (2^32 ≤ usum)
    overflow := decide (ssum < -2^31 ∨ 2^31 ≤ ssum) }

/-- N and Z of a 32-bit result (rule R171). -/
def Psr.withNz (p : Psr) (r : Word) : Psr := { p with n := r.msb, z := decide (r = 0) }

/-- The flags of a logical operation: N, Z, C from the shifter, V unchanged (rule R171). -/
def Psr.withLogical (p : Psr) (r : Word) (carry : Bool) : Psr := { p.withNz r with c := carry }

/-- The flags of an addition or a subtraction (rule R171). -/
def Psr.withSum (p : Psr) (r : Sum) : Psr := { p.withNz r.result with c := r.carry, v := r.overflow }

/-- N and Z of a 64-bit result (rule R221). -/
def Psr.withNz64 (p : Psr) (r : BitVec 64) : Psr := { p with n := r.msb, z := decide (r = 0) }

/-- The flags after a 32-bit multiply with S: N and Z, C a free bit, V unchanged (rule R221). -/
def State.multiplyFlags (s : State) (r : Word) : State :=
  { s.drawn with cpsr := { s.cpsr.withNz r with c := s.freeBit } }

/-- The flags after a long multiply with S: N and Z of the 64-bit result, C and V free bits (rule R221). -/
def State.longMultiplyFlags (s : State) (r : BitVec 64) : State :=
  { s.drawn.drawn with cpsr := { s.cpsr.withNz64 r with c := s.freeBit, v := s.drawn.freeBit } }

/-- What a data-processing operation computes: a logical result, or a sum. -/
inductive DpResult where
  | logical (result : Word)
  | sum (r : Sum)
  deriving DecidableEq, Repr

/-- The sixteen operations, rules R180 to R195 of 40_data_processing.md: `a` is Rn, `b` the shifter operand, `c` the C flag. -/
def dpCompute (op : DpOp) (a b : Word) (c : Bool) : DpResult :=
  match op with
  | .and => .logical (a &&& b)
  | .eor => .logical (a ^^^ b)
  | .sub => .sum (addWithCarry a (~~~ b) true)
  | .rsb => .sum (addWithCarry b (~~~ a) true)
  | .add => .sum (addWithCarry a b false)
  | .adc => .sum (addWithCarry a b c)
  | .sbc => .sum (addWithCarry a (~~~ b) c)
  | .rsc => .sum (addWithCarry b (~~~ a) c)
  | .tst => .logical (a &&& b)
  | .teq => .logical (a ^^^ b)
  | .cmp => .sum (addWithCarry a (~~~ b) true)
  | .cmn => .sum (addWithCarry a b false)
  | .orr => .logical (a ||| b)
  | .mov => .logical b
  | .bic => .logical (a &&& ~~~ b)
  | .mvn => .logical (~~~ b)

/-- The result word. -/
def DpResult.word : DpResult → Word
  | .logical r => r
  | .sum r => r.result

/-- The status register after the operation with S, by its class (rule R171). -/
def DpResult.flags (r : DpResult) (p : Psr) (shifterCarry : Bool) : Psr :=
  match r with
  | .logical w => p.withLogical w shifterCarry
  | .sum x => p.withSum x

/-- Whether the operation writes Rd: TST, TEQ, CMP and CMN do not (rule R172). -/
def dpWrites : DpOp → Bool
  | .tst => false | .teq => false | .cmp => false | .cmn => false
  | _ => true

end Sys2Proof.Machine
end

