-- ==== Sys2Proof/Machine/Operands.lean ====
section
/-! DEFINITION. The operand forms: the eleven forms of the second operand with their carry (rules R120 to R124 of
30_encoding.md), the addressing modes of single transfers (R130 to R132, R255) and of block transfers (R133, R291). -/

namespace Sys2Proof.Machine

/-- The value of a second operand and the carry the shifter puts out (rule R120). -/
structure Shifted where
  value : Word
  carry : Bool
  deriving DecidableEq, Repr

/-- Arithmetic shift right (rule R13 of 00_scope.md). -/
def asr (m : Word) (n : Nat) : Word := m.sshiftRight n

/-- Rotate right (rule R13 of 00_scope.md). -/
def ror (m : Word) (n : Nat) : Word := m.rotateRight n

/-- Every bit a copy of bit 31. -/
def signFill (m : Word) : Word := if m.msb then 0xFFFFFFFF#32 else 0#32

/-- An immediate operand, rule R121: an 8-bit value rotated right by twice `rot`. -/
def immediateOperand (c : Bool) (rot : BitVec 4) (imm : BitVec 8) : Shifted :=
  let v := ror (imm.setWidth 32) (2 * rot.toNat)
  { value := v, carry := if rot = 0 then c else v.msb }

/-- A register shifted by an immediate amount, rules R122 and R123 (amount 0 of ROR is RRX). -/
def shiftByImmediate (c : Bool) (sh : ShiftType) (m : Word) (n : Nat) : Shifted :=
  match sh with
  | .lsl => if n = 0 then ⟨m, c⟩ else ⟨m <<< n, m.getLsbD (32 - n)⟩
  | .lsr => if n = 0 then ⟨0, m.msb⟩ else ⟨m >>> n, m.getLsbD (n - 1)⟩
  | .asr => if n = 0 then ⟨signFill m, m.msb⟩ else ⟨asr m n, m.getLsbD (n - 1)⟩
  | .ror =>
    if n = 0 then ⟨(m >>> 1) ||| (if c then 0x80000000#32 else 0#32), m.getLsbD 0⟩
    else ⟨ror m n, m.getLsbD (n - 1)⟩

/-- A register shifted by the low byte of a register, rule R124: amounts 0 to 255. -/
def shiftByRegister (c : Bool) (sh : ShiftType) (m : Word) (n : Nat) : Shifted :=
  if n = 0 then ⟨m, c⟩
  else match sh with
    | .lsl =>
      if n < 32 then ⟨m <<< n, m.getLsbD (32 - n)⟩
      else if n = 32 then ⟨0, m.getLsbD 0⟩ else ⟨0, false⟩
    | .lsr =>
      if n < 32 then ⟨m >>> n, m.getLsbD (n - 1)⟩
      else if n = 32 then ⟨0, m.msb⟩ else ⟨0, false⟩
    | .asr => if n < 32 then ⟨asr m n, m.getLsbD (n - 1)⟩ else ⟨signFill m, m.msb⟩
    | .ror => if n % 32 = 0 then ⟨m, m.msb⟩ else ⟨ror m (n % 32), m.getLsbD (n % 32 - 1)⟩

/-- The shift amount in a register: its least significant byte (rule R124). -/
def shiftAmount (v : Word) : Nat := v.toNat % 256

/-- Where a single transfer goes and what its base becomes, rule R255 of 43_load_store.md. -/
structure Transfer where
  addr : Word
  newBase : Word
  writeBack : Bool
  deriving DecidableEq, Repr

/-- Address generation, rule R255 of 43_load_store.md: P pre-indexed, U add, `wb` write-back. -/
def transferOf (p u wb : Bool) (base offset : Word) : Transfer :=
  let o := if u then base + offset else base - offset
  { addr := if p then o else base, newBase := o, writeBack := wb }

/-- The four modes of a block transfer, rule R133 of 30_encoding.md. -/
inductive BlockMode where
  | ia | ib | da | db
  deriving DecidableEq, Repr

/-- The listed registers in ascending order (rule R291 of 44_block_transfer.md). -/
def listed (list : BitVec 16) : List Reg :=
  ((List.range 16).filter (fun i => list.getLsbD i)).map (BitVec.ofNat 4)

/-- Four bytes for each listed register (rule R291). -/
def listBytes (list : BitVec 16) : Word := BitVec.ofNat 32 (4 * (listed list).length)

/-- The address of the lowest word (rule R291). -/
def BlockMode.start (m : BlockMode) (base : Word) (list : BitVec 16) : Word :=
  match m with
  | .ia => base
  | .ib => base + 4
  | .da => base - listBytes list + 4
  | .db => base - listBytes list

/-- The value written back to the base (rule R291). -/
def BlockMode.newBase (m : BlockMode) (base : Word) (list : BitVec 16) : Word :=
  match m with
  | .ia => base + listBytes list
  | .ib => base + listBytes list
  | .da => base - listBytes list
  | .db => base - listBytes list

end Sys2Proof.Machine
end

