-- ==== Sys2Proof/Machine/BlockTransfer.lean ====
section
/-! DEFINITION. LDM and STM, 44_block_transfer.md, over shared operations that the Thumb multiple transfers use too. -/

namespace Sys2Proof.Machine

/-- Loading registers of a mode's view in turn; r15 is not loaded here (rule R293). -/
def State.loadRegs (m : Mode) : List (Reg × Word) → State → State
  | [], st => st
  | (r, v) :: rest, st => State.loadRegs m rest (st.setIn m r v)

/-- The mode whose registers take part: the User bank with `^`, but for an LDM that loads the PC (rules R298, R299). -/
def blockBank (st : State) (userBank : Bool) : Mode := if userBank then .usr else st.mode

/-- LDM with the base value `base`: rules R291 to R293, R295, R298 and R299. All accesses are made; after an abort only the
registers before the aborted access are loaded and the base holds the written-back or the original value. -/
def blockLoad (bm : BlockMode) (s w : Bool) (rn : Reg) (list : BitVec 16) (st : State) : Result :=
  let base := st.reg rn
  let start := bm.start base list
  let pcIn := inList list 15#4
  let userBank := s && !pcIn
  if st.busMisaligned start .word || (pcIn && !Size.word.aligned start && st.dbg.feed.isNone) then .refused .misaligned
  else if s && pcIn && (st.spsr.get st.mode).isNone then .refused .noSpsr
  else
    match State.readBurst st.isPriv (listed list).length start st with
    | .error r => .refused r
    | .ok (ds, aborted, s1) =>
      let pairs := (listed list).zip ds
      if aborted then
        let s2 := State.loadRegs (blockBank st userBank) pairs s1
        .next ((s2.setReg rn (if w then bm.newBase base list else base)).takeException .dabt)
      else
        let s2 := if w then s1.setReg rn (bm.newBase base list) else s1
        let s3 := State.loadRegs (blockBank st userBank) pairs s2
        if pcIn then
          let target := ds.getLast?.getD 0
          if s then s3.returnTo target else .next (s3.branchTo target)
        else ({ s3 with usrLdm := s } : State).advance

/-- STM: rules R291, R294, R295, R298 and R301; all values are those before the write-back (R297). -/
def blockStore (bm : BlockMode) (s w : Bool) (rn : Reg) (list : BitVec 16) (st : State) : Result :=
  let base := st.reg rn
  let start := bm.start base list
  let values := (listed list).map (st.regView (blockBank st s) (st.pc + 12))
  if st.busMisaligned start .word then .refused .misaligned
  else
    match State.writeBurst st.isPriv values start st with
    | .error r => .refused r
    | .ok (aborted, s1) =>
      let s2 := if w then s1.setReg rn (bm.newBase base list) else s1
      if aborted then .next (s2.takeException .dabt) else s2.advance

/-- An ARM LDM: the gate and `blockLoad`. -/
def loadMultiple (bm : BlockMode) (cond : Cond) (s w : Bool) (rn : Reg) (list : BitVec 16) (st : State) : Result :=
  runArm cond (Restriction.loadMultiple s w rn list) [rn] st fun st => blockLoad bm s w rn list st

/-- The listed registers that an STM reads as registers of the current mode (rule R620 of 70_reset_and_hazards.md): all of them,
with `^` those whose User-bank register is also the current mode's. -/
def storeReads (s : Bool) (list : BitVec 16) (m : Mode) : List Reg :=
  if s then (listed list).filter (fun r => decide (phys .usr r = phys m r)) else listed list

/-- An ARM STM: the gate and `blockStore`. -/
def storeMultiple (bm : BlockMode) (cond : Cond) (s w : Bool) (rn : Reg) (list : BitVec 16) (st : State) : Result :=
  runArm cond (Restriction.storeMultiple s w rn list) (rn :: storeReads s list st.mode) st fun st => blockStore bm s w rn list st

/-- LDMIA, rule R305 of 44_block_transfer.md. -/
def execLdmia (cond : Cond) (s : Bool) (w : Bool) (rn : Reg) (list : BitVec 16) (st : State) : Result :=
  loadMultiple .ia cond s w rn list st

/-- LDMIB, rule R306 of 44_block_transfer.md. -/
def execLdmib (cond : Cond) (s : Bool) (w : Bool) (rn : Reg) (list : BitVec 16) (st : State) : Result :=
  loadMultiple .ib cond s w rn list st

/-- LDMDA, rule R307 of 44_block_transfer.md. -/
def execLdmda (cond : Cond) (s : Bool) (w : Bool) (rn : Reg) (list : BitVec 16) (st : State) : Result :=
  loadMultiple .da cond s w rn list st

/-- LDMDB, rule R308 of 44_block_transfer.md. -/
def execLdmdb (cond : Cond) (s : Bool) (w : Bool) (rn : Reg) (list : BitVec 16) (st : State) : Result :=
  loadMultiple .db cond s w rn list st

/-- STMIA, rule R309 of 44_block_transfer.md. -/
def execStmia (cond : Cond) (s : Bool) (w : Bool) (rn : Reg) (list : BitVec 16) (st : State) : Result :=
  storeMultiple .ia cond s w rn list st

/-- STMIB, rule R310 of 44_block_transfer.md. -/
def execStmib (cond : Cond) (s : Bool) (w : Bool) (rn : Reg) (list : BitVec 16) (st : State) : Result :=
  storeMultiple .ib cond s w rn list st

/-- STMDA, rule R311 of 44_block_transfer.md. -/
def execStmda (cond : Cond) (s : Bool) (w : Bool) (rn : Reg) (list : BitVec 16) (st : State) : Result :=
  storeMultiple .da cond s w rn list st

/-- STMDB, rule R312 of 44_block_transfer.md. -/
def execStmdb (cond : Cond) (s : Bool) (w : Bool) (rn : Reg) (list : BitVec 16) (st : State) : Result :=
  storeMultiple .db cond s w rn list st

end Sys2Proof.Machine
end

