-- ==== Sys2Proof/Machine/Branch.lean ====
section
/-! DEFINITION. The branches of both states: 42_branch.md, and 48_thumb_alu.md and 49_thumb_mem_branch.md for Thumb. -/

namespace Sys2Proof.Machine

/-- The byte offset of an ARM branch, rule R135 of 30_encoding.md. -/
def branchOffset (off : BitVec 24) : Word := off.signExtend 32 <<< 2

/-- Branch and exchange, rules R244 and R399: bit 0 of the value selects the state. -/
def State.exchange (st : State) (v : Word) : State :=
  ({ st with cpsr := { st.cpsr with t := v.getLsbD 0 } } : State).branchTo v

/-- A Thumb conditional branch, rule R455 of 49_thumb_mem_branch.md. -/
def thumbBranch (c : Cond) (off : BitVec 8) (st : State) : Result :=
  runThumb none [] st fun st =>
    if conditionPassed st.cpsr c then .next (st.branchTo (st.pcRead + (off.signExtend 32 <<< 1)))
    else st.advance

/-- B, rule R241 of 42_branch.md. -/
def execB (cond : Cond) (off : BitVec 24) (st : State) : Result :=
  runArm cond none [] st fun st => .next (st.branchTo (st.pcRead + branchOffset off))

/-- BL, rule R242 of 42_branch.md. -/
def execBl (cond : Cond) (off : BitVec 24) (st : State) : Result :=
  runArm cond none [] st fun st =>
    .next ((st.setReg 14#4 (st.pc + 4)).branchTo (st.pcRead + branchOffset off))

/-- BX, rule R244 of 42_branch.md. -/
def execBx (cond : Cond) (rm : Reg) (st : State) : Result :=
  runArm cond none [rm] st fun st => .next (st.exchange (st.reg rm))

/-- BX, rule R399 of 48_thumb_alu.md. -/
def execTBx (rs : Reg) (st : State) : Result :=
  runThumb none [rs] st fun st => .next (st.exchange (st.reg rs))

/-- BEQ, rule R456 of 49_thumb_mem_branch.md: taken as rule R455 says. -/
def execTBeq (off : BitVec 8) (st : State) : Result :=
  thumbBranch .eq off st

/-- BNE, rule R457 of 49_thumb_mem_branch.md: taken as rule R455 says. -/
def execTBne (off : BitVec 8) (st : State) : Result :=
  thumbBranch .ne off st

/-- BCS, rule R458 of 49_thumb_mem_branch.md: taken as rule R455 says. -/
def execTBcs (off : BitVec 8) (st : State) : Result :=
  thumbBranch .cs off st

/-- BCC, rule R459 of 49_thumb_mem_branch.md: taken as rule R455 says. -/
def execTBcc (off : BitVec 8) (st : State) : Result :=
  thumbBranch .cc off st

/-- BMI, rule R460 of 49_thumb_mem_branch.md: taken as rule R455 says. -/
def execTBmi (off : BitVec 8) (st : State) : Result :=
  thumbBranch .mi off st

/-- BPL, rule R461 of 49_thumb_mem_branch.md: taken as rule R455 says. -/
def execTBpl (off : BitVec 8) (st : State) : Result :=
  thumbBranch .pl off st

/-- BVS, rule R462 of 49_thumb_mem_branch.md: taken as rule R455 says. -/
def execTBvs (off : BitVec 8) (st : State) : Result :=
  thumbBranch .vs off st

/-- BVC, rule R463 of 49_thumb_mem_branch.md: taken as rule R455 says. -/
def execTBvc (off : BitVec 8) (st : State) : Result :=
  thumbBranch .vc off st

/-- BHI, rule R464 of 49_thumb_mem_branch.md: taken as rule R455 says. -/
def execTBhi (off : BitVec 8) (st : State) : Result :=
  thumbBranch .hi off st

/-- BLS, rule R465 of 49_thumb_mem_branch.md: taken as rule R455 says. -/
def execTBls (off : BitVec 8) (st : State) : Result :=
  thumbBranch .ls off st

/-- BGE, rule R466 of 49_thumb_mem_branch.md: taken as rule R455 says. -/
def execTBge (off : BitVec 8) (st : State) : Result :=
  thumbBranch .ge off st

/-- BLT, rule R467 of 49_thumb_mem_branch.md: taken as rule R455 says. -/
def execTBlt (off : BitVec 8) (st : State) : Result :=
  thumbBranch .lt off st

/-- BGT, rule R468 of 49_thumb_mem_branch.md: taken as rule R455 says. -/
def execTBgt (off : BitVec 8) (st : State) : Result :=
  thumbBranch .gt off st

/-- BLE, rule R469 of 49_thumb_mem_branch.md: taken as rule R455 says. -/
def execTBle (off : BitVec 8) (st : State) : Result :=
  thumbBranch .le off st

/-- B, rule R472 of 49_thumb_mem_branch.md. -/
def execTB (off : BitVec 11) (st : State) : Result :=
  runThumb none [] st fun st => .next (st.branchTo (st.pcRead + (off.signExtend 32 <<< 1)))

/-- BL, rule R473 of 49_thumb_mem_branch.md: first half, the upper part of the offset into r14. -/
def execTBlHi (off : BitVec 11) (st : State) : Result :=
  runThumb none [] st fun st =>
    (st.setReg 14#4 (st.pcRead + (off.signExtend 32 <<< 12))).advance

/-- BL, rule R474 of 49_thumb_mem_branch.md: second half. -/
def execTBlLo (off : BitVec 11) (st : State) : Result :=
  runThumb none [14#4] st fun st =>
    .next ((st.setReg 14#4 ((st.pc + 2) ||| 1#32)).branchTo (st.reg 14#4 + (off.setWidth 32 <<< 1)))

end Sys2Proof.Machine
end

