-- ==== Sys2Proof/Machine/Coprocessor.lean ====
section
/-! DEFINITION. The coprocessor instructions and CP14, 46_coprocessor.md. -/

namespace Sys2Proof.Machine

/-! ## The attached coprocessors -/

/-- Whether a field of an offer has the value that a rule asks for. -/
def fits {n : Nat} (want : Option (BitVec n)) (v : BitVec n) : Bool := decide (want.getD v = v)

/-- Whether a rule holds for an offered instruction in an own state of the coprocessor (rule R326). -/
def CopRule.holds (r : CopRule) (own : Nat) (o : CopOffer) : Bool :=
  decide (r.state = own) && r.kinds.contains o.kind && r.privs.contains o.priv && fits r.op1 o.op1 && fits r.op2 o.op2 &&
    fits r.crn o.crn && fits r.crd o.crd && fits r.crm o.crm && decide (r.long.getD o.long = o.long)

/-- What one coprocessor answers: absent where the number is another or no rule holds; a coprocessor that accepts is busy as long
as it makes the instruction wait (rules R326 to R328). -/
def CopPort.answer (p : CopPort) (o : CopOffer) : CopAnswer :=
  if p.number = o.number then
    match p.rules.find? (fun r => r.holds p.state o) with
    | none => .absent
    | some r =>
      match r.response with
      | .absent => .absent
      | .invalid => .invalid
      | .present => if 0 < p.waits.headD 0 then .busy else .present r
  else .absent

/-- The first coprocessor that does not answer absent: the answers are ANDed, so it decides (rule R326). -/
def Env.responder (e : Env) (o : CopOffer) : Option CopPort := e.coprocs.find? (fun p => decide (p.answer o ≠ .absent))

/-- Changing the coprocessor that answers. -/
def updateResponder (o : CopOffer) (f : CopPort → CopPort) : List CopPort → List CopPort
  | [] => []
  | p :: ps => if p.answer o ≠ .absent then f p :: ps else p :: updateResponder o f ps

/-- The environment with the coprocessor that answers changed. -/
def Env.withResponder (e : Env) (o : CopOffer) (f : CopPort → CopPort) : Env :=
  { e with coprocs := updateResponder o f e.coprocs }

/-- One step of a busy-wait is over; the coprocessor changes nothing else (rule R327). -/
def CopPort.waited (p : CopPort) : CopPort :=
  match p.waits with
  | [] => p
  | n :: rest => { p with waits := (n - 1) :: rest }

/-- The word a coprocessor takes from a source; beyond its bank there are zeros. -/
def CopPort.source (p : CopPort) : CopSource → Word
  | .word w => w
  | .bank k => p.bank.getD k 0

/-- The coprocessor after it has executed an instruction by a rule and taken the words `taken`: the words of its bank that change
by themselves, then those that take what it was sent, and its own state (rules R330 to R335). -/
def CopPort.executed (p : CopPort) (r : CopRule) (taken : List Word) (aborted : Bool) : CopPort :=
  let own := r.sets.foldl (fun bank x => bank.set x.1 (p.source x.2)) p.bank
  { p with
    state := if aborted then r.nextAborted else r.next
    bank := ((r.takes :: r.takesMore).zip taken).foldl (fun bank x => bank.set x.1 x.2) own
    waits := p.waits.tail }

/-- The words a coprocessor gives by a rule. -/
def CopPort.given (p : CopPort) (r : CopRule) : List Word := (r.gives :: r.givesMore).map p.source

/-- The handshake of rule R326 for the instruction `i`: absent takes the undefined instruction trap; busy leaves the machine where
it was before the instruction, `st0`, with the instruction waiting in the Execute stage (R327); present goes on. -/
def handshake (i : Instr) (o : CopOffer) (st0 st : State) (present : CopPort → CopRule → Result) : Result :=
  match st.env.responder o with
  | none => .next (st.takeException .und)
  | some p =>
    match p.answer o with
    | .absent => .next (st.takeException .und)
    | .invalid => .refused .coprocessorProtocol
    | .busy => .next { st0 with env := st0.env.withResponder o CopPort.waited, waiting := some i }
    | .present r => present p r

/-- The state after a coprocessor has executed an instruction: its own state is changed, and what it saw is recorded. -/
def State.requested (st : State) (o : CopOffer) (r : CopRule) (taken data : List Word) (aborted : Bool) : State :=
  { st with
    env := st.env.withResponder o (fun p => p.executed r taken aborted)
    cop := st.cop ++ [{ offer := o, data := data, aborted := aborted }] }

/-! ## The instructions -/

/-- The end of MRC, rule R332: Rd = r15 sets the flags from bits [31:28] and writes no register. -/
def deliver (rd : Reg) (v : Word) (st : State) : Result :=
  if isPc rd then
    ({ st with cpsr := { st.cpsr with n := v.getLsbD 31, z := v.getLsbD 30, c := v.getLsbD 29, v := v.getLsbD 28 } } :
      State).advance
  else (st.setReg rd v).advance

/-- The DCC control register as the processor reads it, rule R337: version 0001, bits [27:2] any value, W, R. -/
def State.dccControl (st : State) : Word :=
  0x1#4 ++ (st.freeWord.setWidth 26) ++ BitVec.ofBool st.dcc.w ++ BitVec.ofBool st.dcc.r

/-- MRC from CP14, rules R336 to R338. -/
def debugRead (op1 : BitVec 3) (crn : BitVec 4) (rd : Reg) (op2 : BitVec 3) (crm : BitVec 4) (st : State) : Result :=
  if op1 = 0 ∧ op2 = 0 ∧ crm = 0 ∧ crn = 0 then deliver rd st.dccControl st.drawn
  else if op1 = 0 ∧ op2 = 0 ∧ crm = 0 ∧ crn = 1 then
    deliver rd st.dcc.dataRead { st with dcc := { st.dcc with r := false } }
  else .refused .debugCoprocessor

/-- MCR to CP14, rules R336 to R338: the data write register is overwritten and W is set. -/
def debugWrite (op1 : BitVec 3) (crn : BitVec 4) (rd : Reg) (op2 : BitVec 3) (crm : BitVec 4) (st0 st : State) : Result :=
  if op1 = 0 ∧ op2 = 0 ∧ crm = 0 ∧ crn = 1 then
    if isPc rd then .refused (.operands .mcrPc)
    else if st0.hazard [rd] then .refused .userBankHazard
    else ({ st with dcc := { st.dcc with dataWrite := st.reg rd, w := true } } : State).advance
  else .refused .debugCoprocessor

/-- CDP, rule R330. -/
def cdp (i : Instr) (num op1 crn crd : BitVec 4) (op2 : BitVec 3) (crm : BitVec 4) (st0 st : State) : Result :=
  let o : CopOffer := { kind := .cdp, number := num, op1 := op1, op2 := op2, crn := crn, crd := crd, crm := crm, long := false,
                        priv := st0.fetchPriv }
  if num = 14 then .refused .debugCoprocessor
  else handshake i o st0 st fun _ r => (st.requested o r [] [] false).advance

/-- The offer of a register transfer. -/
def registerOffer (kind : CopKind) (num : BitVec 4) (op1 : BitVec 3) (crn : BitVec 4) (op2 : BitVec 3) (crm : BitVec 4)
    (priv : Bool) : CopOffer :=
  { kind := kind, number := num, op1 := op1.setWidth 4, op2 := op2, crn := crn, crd := 0, crm := crm, long := false, priv := priv }

/-- MCR, rule R331: the word of Rd goes to the coprocessor. Rd is read once the coprocessor has accepted, so only then is the
hazard of rule R620 of 70_reset_and_hazards.md there. -/
def mcr (i : Instr) (num : BitVec 4) (op1 : BitVec 3) (crn : BitVec 4) (rd : Reg) (op2 : BitVec 3) (crm : BitVec 4)
    (st0 st : State) : Result :=
  let o := registerOffer .mcr num op1 crn op2 crm st0.fetchPriv
  if num = 14 then debugWrite op1 crn rd op2 crm st0 st
  else handshake i o st0 st fun _ r =>
    if isPc rd then .refused (.operands .mcrPc)
    else if st0.hazard [rd] then .refused .userBankHazard
    else (st.requested o r [st.reg rd] [st.reg rd] false).advance

/-- MRC, rule R332: the coprocessor gives one word. -/
def mrc (i : Instr) (num : BitVec 4) (op1 : BitVec 3) (crn : BitVec 4) (rd : Reg) (op2 : BitVec 3) (crm : BitVec 4)
    (st0 st : State) : Result :=
  let o := registerOffer .mrc num op1 crn op2 crm st0.fetchPriv
  if num = 14 then debugRead op1 crn rd op2 crm st
  else handshake i o st0 st fun p r => deliver rd (p.source r.gives) (st.requested o r [] [p.source r.gives] false)

/-- Addressing mode 5, rule R134 of 30_encoding.md and rule R333. -/
def copTransfer (p u w : Bool) (base : Word) (off : BitVec 8) : Transfer :=
  transferOf p u w base (4 * off.setWidth 32)

/-- The base write-back of LDC and STC (rule R333). -/
def State.writeCopBase (st : State) (t : Transfer) (rn : Reg) : State :=
  if t.writeBack then st.setReg rn t.newBase else st

/-- The offer of a memory transfer. -/
def memoryOffer (kind : CopKind) (num crd : BitVec 4) (l : Bool) (priv : Bool) : CopOffer :=
  { kind := kind, number := num, op1 := 0, op2 := 0, crn := 0, crd := crd, crm := 0, long := l, priv := priv }

/-- LDC, rules R333 and R335: the coprocessor takes as many words as its rule has places for. Rn is read once the coprocessor has
accepted, so only then is the hazard of rule R620 of 70_reset_and_hazards.md there. Under `Misaligned = armv4t` the low bits of a
misaligned address are ignored and no word is rotated, which the spec leaves open: DESIGN CHOICE, unsafe (log entry 52). -/
def ldc (i : Instr) (p u l w : Bool) (rn : Reg) (crd num : BitVec 4) (off : BitVec 8) (st0 st : State) : Result :=
  let o := memoryOffer .ldc num crd l st0.fetchPriv
  if num = 14 then .refused .debugCoprocessor
  else handshake i o st0 st fun _ r =>
    let t := copTransfer p u w (st.reg rn) off
    match Restriction.coprocessorTransfer p w rn with
    | some e => .refused (.operands e)
    | none =>
      if st0.hazard [rn] then .refused .userBankHazard
      else if st.loadMisaligned t.addr .word then .refused .misaligned
      else
        match State.readBurst st.isPriv (r.takesMore.length + 1) t.addr st with
        | .error e => .refused e
        | .ok (ds, aborted, s1) =>
          let s2 := (s1.requested o r ds ds aborted).writeCopBase t rn
          if aborted then .next (s2.takeException .dabt) else s2.advance

/-- STC, rules R334 and R335: the coprocessor gives the words; as for LDC, a misaligned address
(log entry 52) too. -/
def stc (i : Instr) (p u l w : Bool) (rn : Reg) (crd num : BitVec 4) (off : BitVec 8) (st0 st : State) : Result :=
  let o := memoryOffer .stc num crd l st0.fetchPriv
  if num = 14 then .refused .debugCoprocessor
  else handshake i o st0 st fun c r =>
    let t := copTransfer p u w (st.reg rn) off
    match Restriction.coprocessorTransfer p w rn with
    | some e => .refused (.operands e)
    | none =>
      if st0.hazard [rn] then .refused .userBankHazard
      else if st.busMisaligned t.addr .word then .refused .misaligned
      else
        match State.writeBurst st.isPriv (c.given r) t.addr st with
        | .error e => .refused e
        | .ok (aborted, s1) =>
          let s2 := (s1.requested o r [] (c.given r) aborted).writeCopBase t rn
          if aborted then .next (s2.takeException .dabt) else s2.advance

/-- CDP, rule R330 of 46_coprocessor.md. -/
def execCdp (cond : Cond) (op1 : BitVec 4) (crn : BitVec 4) (crd : BitVec 4) (cpnum : BitVec 4) (op2 : BitVec 3) (crm : BitVec 4)
    (st : State) : Result :=
  runArm cond none [] st fun s1 => cdp (.cdp cond op1 crn crd cpnum op2 crm) cpnum op1 crn crd op2 crm st s1

/-- LDC, rule R333 of 46_coprocessor.md. -/
def execLdc (cond : Cond) (p : Bool) (u : Bool) (n : Bool) (w : Bool) (rn : Reg) (crd : BitVec 4) (cpnum : BitVec 4) (off : BitVec 8)
    (st : State) : Result :=
  runArm cond none [] st fun s1 => ldc (.ldc cond p u n w rn crd cpnum off) p u n w rn crd cpnum off st s1

/-- STC, rule R334 of 46_coprocessor.md. -/
def execStc (cond : Cond) (p : Bool) (u : Bool) (n : Bool) (w : Bool) (rn : Reg) (crd : BitVec 4) (cpnum : BitVec 4) (off : BitVec 8)
    (st : State) : Result :=
  runArm cond none [] st fun s1 => stc (.stc cond p u n w rn crd cpnum off) p u n w rn crd cpnum off st s1

/-- MCR, rule R331 of 46_coprocessor.md. -/
def execMcr (cond : Cond) (op1 : BitVec 3) (crn : BitVec 4) (rd : Reg) (cpnum : BitVec 4) (op2 : BitVec 3) (crm : BitVec 4)
    (st : State) : Result :=
  runArm cond none [] st fun s1 => mcr (.mcr cond op1 crn rd cpnum op2 crm) cpnum op1 crn rd op2 crm st s1

/-- MRC, rule R332 of 46_coprocessor.md. -/
def execMrc (cond : Cond) (op1 : BitVec 3) (crn : BitVec 4) (rd : Reg) (cpnum : BitVec 4) (op2 : BitVec 3) (crm : BitVec 4)
    (st : State) : Result :=
  runArm cond none [] st fun s1 => mrc (.mrc cond op1 crn rd cpnum op2 crm) cpnum op1 crn rd op2 crm st s1

end Sys2Proof.Machine
end

