-- ==== Sys2Proof/Machine/DataProcessing.lean ====
section
/-! DEFINITION. The sixteen data-processing instructions in their three operand forms, 40_data_processing.md. -/

namespace Sys2Proof.Machine

/-- The end of a data-processing instruction, rules R170 to R174: `a` is the first operand, `b` the shifter's answer. With S
and Rd = r15 the CPSR is restored from the SPSR and no flag is set. -/
def dpFinish (op : DpOp) (setFlags : Bool) (rd : Reg) (a : Word) (b : Shifted) (st : State) : Result :=
  let r := dpCompute op a b.value st.cpsr.c
  if dpWrites op then
    if setFlags then
      if isPc rd then st.returnTo r.word
      else (({ st with cpsr := r.flags st.cpsr b.carry } : State).setReg rd r.word).advance
    else st.writeAndAdvance rd r.word
  else ({ st with cpsr := r.flags st.cpsr b.carry } : State).advance

/-- Format A10: an immediate second operand (rule R121). -/
def dpImm (op : DpOp) (cond : Cond) (s : Bool) (rn rd : Reg) (rot : BitVec 4) (imm : BitVec 8) (st : State) : Result :=
  runArm cond (Restriction.dataProcessing op rn rd none) [rn] st fun st =>
    dpFinish op s rd (st.reg rn) (immediateOperand st.cpsr.c rot imm) st

/-- Format A11: a register shifted by an immediate amount (rules R122 and R123). -/
def dpShi (op : DpOp) (cond : Cond) (s : Bool) (rn rd : Reg) (shamt : BitVec 5) (sh : ShiftType) (rm : Reg) (st : State) :
    Result :=
  runArm cond (Restriction.dataProcessing op rn rd none) [rn, rm] st fun st =>
    dpFinish op s rd (st.reg rn) (shiftByImmediate st.cpsr.c sh (st.reg rm) shamt.toNat) st

/-- Format A12: a register shifted by a register; r15 as Rn or Rm reads three instructions ahead (rule R124). -/
def dpShr (op : DpOp) (cond : Cond) (s : Bool) (rn rd rs : Reg) (sh : ShiftType) (rm : Reg) (st : State) : Result :=
  runArm cond (Restriction.dataProcessing op rn rd (some rs)) [rn, rs, rm] st fun st =>
    dpFinish op s rd (st.regAhead rn) (shiftByRegister st.cpsr.c sh (st.regAhead rm) (shiftAmount (st.reg rs))) st

/-- AND, rule R180 of 40_data_processing.md. -/
def execAndImm (cond : Cond) (s : Bool) (rn : Reg) (rd : Reg) (rot : BitVec 4) (imm : BitVec 8)
    (st : State) : Result :=
  dpImm .and cond s rn rd rot imm st

/-- AND, rule R180 of 40_data_processing.md. -/
def execAndShi (cond : Cond) (s : Bool) (rn : Reg) (rd : Reg) (shamt : BitVec 5) (sh : ShiftType) (rm : Reg)
    (st : State) : Result :=
  dpShi .and cond s rn rd shamt sh rm st

/-- AND, rule R180 of 40_data_processing.md. -/
def execAndShr (cond : Cond) (s : Bool) (rn : Reg) (rd : Reg) (rs : Reg) (sh : ShiftType) (rm : Reg)
    (st : State) : Result :=
  dpShr .and cond s rn rd rs sh rm st

/-- EOR, rule R181 of 40_data_processing.md. -/
def execEorImm (cond : Cond) (s : Bool) (rn : Reg) (rd : Reg) (rot : BitVec 4) (imm : BitVec 8)
    (st : State) : Result :=
  dpImm .eor cond s rn rd rot imm st

/-- EOR, rule R181 of 40_data_processing.md. -/
def execEorShi (cond : Cond) (s : Bool) (rn : Reg) (rd : Reg) (shamt : BitVec 5) (sh : ShiftType) (rm : Reg)
    (st : State) : Result :=
  dpShi .eor cond s rn rd shamt sh rm st

/-- EOR, rule R181 of 40_data_processing.md. -/
def execEorShr (cond : Cond) (s : Bool) (rn : Reg) (rd : Reg) (rs : Reg) (sh : ShiftType) (rm : Reg)
    (st : State) : Result :=
  dpShr .eor cond s rn rd rs sh rm st

/-- SUB, rule R182 of 40_data_processing.md. -/
def execSubImm (cond : Cond) (s : Bool) (rn : Reg) (rd : Reg) (rot : BitVec 4) (imm : BitVec 8)
    (st : State) : Result :=
  dpImm .sub cond s rn rd rot imm st

/-- SUB, rule R182 of 40_data_processing.md. -/
def execSubShi (cond : Cond) (s : Bool) (rn : Reg) (rd : Reg) (shamt : BitVec 5) (sh : ShiftType) (rm : Reg)
    (st : State) : Result :=
  dpShi .sub cond s rn rd shamt sh rm st

/-- SUB, rule R182 of 40_data_processing.md. -/
def execSubShr (cond : Cond) (s : Bool) (rn : Reg) (rd : Reg) (rs : Reg) (sh : ShiftType) (rm : Reg)
    (st : State) : Result :=
  dpShr .sub cond s rn rd rs sh rm st

/-- RSB, rule R183 of 40_data_processing.md. -/
def execRsbImm (cond : Cond) (s : Bool) (rn : Reg) (rd : Reg) (rot : BitVec 4) (imm : BitVec 8)
    (st : State) : Result :=
  dpImm .rsb cond s rn rd rot imm st

/-- RSB, rule R183 of 40_data_processing.md. -/
def execRsbShi (cond : Cond) (s : Bool) (rn : Reg) (rd : Reg) (shamt : BitVec 5) (sh : ShiftType) (rm : Reg)
    (st : State) : Result :=
  dpShi .rsb cond s rn rd shamt sh rm st

/-- RSB, rule R183 of 40_data_processing.md. -/
def execRsbShr (cond : Cond) (s : Bool) (rn : Reg) (rd : Reg) (rs : Reg) (sh : ShiftType) (rm : Reg)
    (st : State) : Result :=
  dpShr .rsb cond s rn rd rs sh rm st

/-- ADD, rule R184 of 40_data_processing.md. -/
def execAddImm (cond : Cond) (s : Bool) (rn : Reg) (rd : Reg) (rot : BitVec 4) (imm : BitVec 8)
    (st : State) : Result :=
  dpImm .add cond s rn rd rot imm st

/-- ADD, rule R184 of 40_data_processing.md. -/
def execAddShi (cond : Cond) (s : Bool) (rn : Reg) (rd : Reg) (shamt : BitVec 5) (sh : ShiftType) (rm : Reg)
    (st : State) : Result :=
  dpShi .add cond s rn rd shamt sh rm st

/-- ADD, rule R184 of 40_data_processing.md. -/
def execAddShr (cond : Cond) (s : Bool) (rn : Reg) (rd : Reg) (rs : Reg) (sh : ShiftType) (rm : Reg)
    (st : State) : Result :=
  dpShr .add cond s rn rd rs sh rm st

/-- ADC, rule R185 of 40_data_processing.md. -/
def execAdcImm (cond : Cond) (s : Bool) (rn : Reg) (rd : Reg) (rot : BitVec 4) (imm : BitVec 8)
    (st : State) : Result :=
  dpImm .adc cond s rn rd rot imm st

/-- ADC, rule R185 of 40_data_processing.md. -/
def execAdcShi (cond : Cond) (s : Bool) (rn : Reg) (rd : Reg) (shamt : BitVec 5) (sh : ShiftType) (rm : Reg)
    (st : State) : Result :=
  dpShi .adc cond s rn rd shamt sh rm st

/-- ADC, rule R185 of 40_data_processing.md. -/
def execAdcShr (cond : Cond) (s : Bool) (rn : Reg) (rd : Reg) (rs : Reg) (sh : ShiftType) (rm : Reg)
    (st : State) : Result :=
  dpShr .adc cond s rn rd rs sh rm st

/-- SBC, rule R186 of 40_data_processing.md. -/
def execSbcImm (cond : Cond) (s : Bool) (rn : Reg) (rd : Reg) (rot : BitVec 4) (imm : BitVec 8)
    (st : State) : Result :=
  dpImm .sbc cond s rn rd rot imm st

/-- SBC, rule R186 of 40_data_processing.md. -/
def execSbcShi (cond : Cond) (s : Bool) (rn : Reg) (rd : Reg) (shamt : BitVec 5) (sh : ShiftType) (rm : Reg)
    (st : State) : Result :=
  dpShi .sbc cond s rn rd shamt sh rm st

/-- SBC, rule R186 of 40_data_processing.md. -/
def execSbcShr (cond : Cond) (s : Bool) (rn : Reg) (rd : Reg) (rs : Reg) (sh : ShiftType) (rm : Reg)
    (st : State) : Result :=
  dpShr .sbc cond s rn rd rs sh rm st

/-- RSC, rule R187 of 40_data_processing.md. -/
def execRscImm (cond : Cond) (s : Bool) (rn : Reg) (rd : Reg) (rot : BitVec 4) (imm : BitVec 8)
    (st : State) : Result :=
  dpImm .rsc cond s rn rd rot imm st

/-- RSC, rule R187 of 40_data_processing.md. -/
def execRscShi (cond : Cond) (s : Bool) (rn : Reg) (rd : Reg) (shamt : BitVec 5) (sh : ShiftType) (rm : Reg)
    (st : State) : Result :=
  dpShi .rsc cond s rn rd shamt sh rm st

/-- RSC, rule R187 of 40_data_processing.md. -/
def execRscShr (cond : Cond) (s : Bool) (rn : Reg) (rd : Reg) (rs : Reg) (sh : ShiftType) (rm : Reg)
    (st : State) : Result :=
  dpShr .rsc cond s rn rd rs sh rm st

/-- TST, rule R188 of 40_data_processing.md. -/
def execTstImm (cond : Cond) (rn : Reg) (rd : Reg) (rot : BitVec 4) (imm : BitVec 8) (st : State) : Result :=
  dpImm .tst cond true rn rd rot imm st

/-- TST, rule R188 of 40_data_processing.md. -/
def execTstShi (cond : Cond) (rn : Reg) (rd : Reg) (shamt : BitVec 5) (sh : ShiftType) (rm : Reg)
    (st : State) : Result :=
  dpShi .tst cond true rn rd shamt sh rm st

/-- TST, rule R188 of 40_data_processing.md. -/
def execTstShr (cond : Cond) (rn : Reg) (rd : Reg) (rs : Reg) (sh : ShiftType) (rm : Reg) (st : State) : Result :=
  dpShr .tst cond true rn rd rs sh rm st

/-- TEQ, rule R189 of 40_data_processing.md. -/
def execTeqImm (cond : Cond) (rn : Reg) (rd : Reg) (rot : BitVec 4) (imm : BitVec 8) (st : State) : Result :=
  dpImm .teq cond true rn rd rot imm st

/-- TEQ, rule R189 of 40_data_processing.md. -/
def execTeqShi (cond : Cond) (rn : Reg) (rd : Reg) (shamt : BitVec 5) (sh : ShiftType) (rm : Reg)
    (st : State) : Result :=
  dpShi .teq cond true rn rd shamt sh rm st

/-- TEQ, rule R189 of 40_data_processing.md. -/
def execTeqShr (cond : Cond) (rn : Reg) (rd : Reg) (rs : Reg) (sh : ShiftType) (rm : Reg) (st : State) : Result :=
  dpShr .teq cond true rn rd rs sh rm st

/-- CMP, rule R190 of 40_data_processing.md. -/
def execCmpImm (cond : Cond) (rn : Reg) (rd : Reg) (rot : BitVec 4) (imm : BitVec 8) (st : State) : Result :=
  dpImm .cmp cond true rn rd rot imm st

/-- CMP, rule R190 of 40_data_processing.md. -/
def execCmpShi (cond : Cond) (rn : Reg) (rd : Reg) (shamt : BitVec 5) (sh : ShiftType) (rm : Reg)
    (st : State) : Result :=
  dpShi .cmp cond true rn rd shamt sh rm st

/-- CMP, rule R190 of 40_data_processing.md. -/
def execCmpShr (cond : Cond) (rn : Reg) (rd : Reg) (rs : Reg) (sh : ShiftType) (rm : Reg) (st : State) : Result :=
  dpShr .cmp cond true rn rd rs sh rm st

/-- CMN, rule R191 of 40_data_processing.md. -/
def execCmnImm (cond : Cond) (rn : Reg) (rd : Reg) (rot : BitVec 4) (imm : BitVec 8) (st : State) : Result :=
  dpImm .cmn cond true rn rd rot imm st

/-- CMN, rule R191 of 40_data_processing.md. -/
def execCmnShi (cond : Cond) (rn : Reg) (rd : Reg) (shamt : BitVec 5) (sh : ShiftType) (rm : Reg)
    (st : State) : Result :=
  dpShi .cmn cond true rn rd shamt sh rm st

/-- CMN, rule R191 of 40_data_processing.md. -/
def execCmnShr (cond : Cond) (rn : Reg) (rd : Reg) (rs : Reg) (sh : ShiftType) (rm : Reg) (st : State) : Result :=
  dpShr .cmn cond true rn rd rs sh rm st

/-- ORR, rule R192 of 40_data_processing.md. -/
def execOrrImm (cond : Cond) (s : Bool) (rn : Reg) (rd : Reg) (rot : BitVec 4) (imm : BitVec 8)
    (st : State) : Result :=
  dpImm .orr cond s rn rd rot imm st

/-- ORR, rule R192 of 40_data_processing.md. -/
def execOrrShi (cond : Cond) (s : Bool) (rn : Reg) (rd : Reg) (shamt : BitVec 5) (sh : ShiftType) (rm : Reg)
    (st : State) : Result :=
  dpShi .orr cond s rn rd shamt sh rm st

/-- ORR, rule R192 of 40_data_processing.md. -/
def execOrrShr (cond : Cond) (s : Bool) (rn : Reg) (rd : Reg) (rs : Reg) (sh : ShiftType) (rm : Reg)
    (st : State) : Result :=
  dpShr .orr cond s rn rd rs sh rm st

/-- MOV, rule R193 of 40_data_processing.md. -/
def execMovImm (cond : Cond) (s : Bool) (rn : Reg) (rd : Reg) (rot : BitVec 4) (imm : BitVec 8)
    (st : State) : Result :=
  dpImm .mov cond s rn rd rot imm st

/-- MOV, rule R193 of 40_data_processing.md. -/
def execMovShi (cond : Cond) (s : Bool) (rn : Reg) (rd : Reg) (shamt : BitVec 5) (sh : ShiftType) (rm : Reg)
    (st : State) : Result :=
  dpShi .mov cond s rn rd shamt sh rm st

/-- MOV, rule R193 of 40_data_processing.md. -/
def execMovShr (cond : Cond) (s : Bool) (rn : Reg) (rd : Reg) (rs : Reg) (sh : ShiftType) (rm : Reg)
    (st : State) : Result :=
  dpShr .mov cond s rn rd rs sh rm st

/-- BIC, rule R194 of 40_data_processing.md. -/
def execBicImm (cond : Cond) (s : Bool) (rn : Reg) (rd : Reg) (rot : BitVec 4) (imm : BitVec 8)
    (st : State) : Result :=
  dpImm .bic cond s rn rd rot imm st

/-- BIC, rule R194 of 40_data_processing.md. -/
def execBicShi (cond : Cond) (s : Bool) (rn : Reg) (rd : Reg) (shamt : BitVec 5) (sh : ShiftType) (rm : Reg)
    (st : State) : Result :=
  dpShi .bic cond s rn rd shamt sh rm st

/-- BIC, rule R194 of 40_data_processing.md. -/
def execBicShr (cond : Cond) (s : Bool) (rn : Reg) (rd : Reg) (rs : Reg) (sh : ShiftType) (rm : Reg)
    (st : State) : Result :=
  dpShr .bic cond s rn rd rs sh rm st

/-- MVN, rule R195 of 40_data_processing.md. -/
def execMvnImm (cond : Cond) (s : Bool) (rn : Reg) (rd : Reg) (rot : BitVec 4) (imm : BitVec 8)
    (st : State) : Result :=
  dpImm .mvn cond s rn rd rot imm st

/-- MVN, rule R195 of 40_data_processing.md. -/
def execMvnShi (cond : Cond) (s : Bool) (rn : Reg) (rd : Reg) (shamt : BitVec 5) (sh : ShiftType) (rm : Reg)
    (st : State) : Result :=
  dpShi .mvn cond s rn rd shamt sh rm st

/-- MVN, rule R195 of 40_data_processing.md. -/
def execMvnShr (cond : Cond) (s : Bool) (rn : Reg) (rd : Reg) (rs : Reg) (sh : ShiftType) (rm : Reg)
    (st : State) : Result :=
  dpShr .mvn cond s rn rd rs sh rm st

end Sys2Proof.Machine
end

