-- ==== Sys2Proof/Machine/LoadStore.lean ====
section
/-! DEFINITION. The ARM single data transfers, 43_load_store.md, over shared operations that the Thumb transfers use too. -/

namespace Sys2Proof.Machine

/-- What a load reads and how it is extended, rule R84 of 20_memory.md. -/
inductive LoadKind where
  | word | byte | half | signedByte | signedHalf
  deriving DecidableEq, Repr

/-- The size of the access of a load. -/
def LoadKind.size : LoadKind → Size
  | .word => .word | .byte => .byte | .half => .half | .signedByte => .byte | .signedHalf => .half

/-- The value a load delivers: a word from a misaligned address arrives rotated (rule R260, under `Misaligned = armv4t`;
an aligned one is rotated by 0); bytes and halfwords are zero- or sign-extended (rule R84). -/
def LoadKind.extend (k : LoadKind) (addr d : Word) : Word :=
  match k with
  | .word => ror d (8 * (addr.toNat % 4))
  | .byte => d
  | .half => d
  | .signedByte => signByte d
  | .signedHalf => signHalf d

/-- The base write-back of a single transfer (rules R255 to R257). -/
def State.writeBase (st : State) (t : Transfer) (rn : Reg) : State :=
  if t.writeBack then st.setReg rn t.newBase else st

/-- Rule R256: one read; on a Data Abort the base is still written back and Rd is not written. A load of the PC from a
misaligned address is refused under either setting (rule R79). -/
def singleLoad (k : LoadKind) (user : Bool) (t : Transfer) (rn rd : Reg) (st : State) : Result :=
  if st.loadMisaligned t.addr k.size || (isPc rd && !k.size.aligned t.addr) then .refused .misaligned
  else
    match st.dataRead t.addr k.size (st.isPriv && !user) false with
    | .refused r => .refused r
    | .abort s1 => .next ((s1.writeBase t rn).takeException .dabt)
    | .ok d s1 => (s1.writeBase t rn).writeAndAdvance rd (k.extend t.addr d)

/-- Rule R257: one write of Rd as it was before the write-back; on a Data Abort the base is still written back. r15 is stored
as `cur + 12` (R270). -/
def singleStore (z : Size) (user : Bool) (t : Transfer) (rn rd : Reg) (st : State) : Result :=
  if st.busMisaligned t.addr z then .refused .misaligned
  else
    match st.dataWrite t.addr z (st.regAhead rd) (st.isPriv && !user) false with
    | .refused r => .refused r
    | .abort s1 => .next ((s1.writeBase t rn).takeException .dabt)
    | .ok _ s1 => (s1.writeBase t rn).advance

/-- An ARM load: the gate, the address of rule R255, the load of rule R256. -/
def loadOp (cond : Cond) (restriction : Option Restriction) (reads : List Reg) (k : LoadKind) (user p u wb : Bool)
    (rn rd : Reg) (offset : State → Word) (st : State) : Result :=
  runArm cond restriction reads st fun st => singleLoad k user (transferOf p u wb (st.reg rn) (offset st)) rn rd st

/-- An ARM store: the gate, the address of rule R255, the store of rule R257. -/
def storeOp (cond : Cond) (restriction : Option Restriction) (reads : List Reg) (z : Size) (user p u wb : Bool)
    (rn rd : Reg) (offset : State → Word) (st : State) : Result :=
  runArm cond restriction reads st fun st => singleStore z user (transferOf p u wb (st.reg rn) (offset st)) rn rd st

/-- LDR, rule R263 of 43_load_store.md. -/
def execLdrImm (cond : Cond) (u : Bool) (w : Bool) (rn : Reg) (rd : Reg) (off : BitVec 12) (st : State) : Result :=
  loadOp cond (Restriction.transfer true w rn rd none) [rn] .word false
    true u w rn rd (fun _ => off.setWidth 32) st

/-- LDR, rule R263 of 43_load_store.md. -/
def execLdrImmPost (cond : Cond) (u : Bool) (rn : Reg) (rd : Reg) (off : BitVec 12) (st : State) : Result :=
  loadOp cond (Restriction.transfer true true rn rd none) [rn] .word false
    false u true rn rd (fun _ => off.setWidth 32) st

/-- LDR, rule R263 of 43_load_store.md. -/
def execLdrReg (cond : Cond) (u : Bool) (w : Bool) (rn : Reg) (rd : Reg) (shamt : BitVec 5) (sh : ShiftType) (rm : Reg)
    (st : State) : Result :=
  loadOp cond (Restriction.transfer true w rn rd (some rm)) [rn, rm] .word false
    true u w rn rd (fun st => (shiftByImmediate st.cpsr.c sh (st.reg rm) shamt.toNat).value) st

/-- LDR, rule R263 of 43_load_store.md. -/
def execLdrRegPost (cond : Cond) (u : Bool) (rn : Reg) (rd : Reg) (shamt : BitVec 5) (sh : ShiftType) (rm : Reg)
    (st : State) : Result :=
  loadOp cond (Restriction.transfer true true rn rd (some rm)) [rn, rm] .word false
    false u true rn rd (fun st => (shiftByImmediate st.cpsr.c sh (st.reg rm) shamt.toNat).value) st

/-- LDRB, rule R264 of 43_load_store.md. -/
def execLdrbImm (cond : Cond) (u : Bool) (w : Bool) (rn : Reg) (rd : Reg) (off : BitVec 12) (st : State) : Result :=
  loadOp cond (Restriction.transfer false w rn rd none) [rn] .byte false
    true u w rn rd (fun _ => off.setWidth 32) st

/-- LDRB, rule R264 of 43_load_store.md. -/
def execLdrbImmPost (cond : Cond) (u : Bool) (rn : Reg) (rd : Reg) (off : BitVec 12) (st : State) : Result :=
  loadOp cond (Restriction.transfer false true rn rd none) [rn] .byte false
    false u true rn rd (fun _ => off.setWidth 32) st

/-- LDRB, rule R264 of 43_load_store.md. -/
def execLdrbReg (cond : Cond) (u : Bool) (w : Bool) (rn : Reg) (rd : Reg) (shamt : BitVec 5) (sh : ShiftType) (rm : Reg)
    (st : State) : Result :=
  loadOp cond (Restriction.transfer false w rn rd (some rm)) [rn, rm] .byte false
    true u w rn rd (fun st => (shiftByImmediate st.cpsr.c sh (st.reg rm) shamt.toNat).value) st

/-- LDRB, rule R264 of 43_load_store.md. -/
def execLdrbRegPost (cond : Cond) (u : Bool) (rn : Reg) (rd : Reg) (shamt : BitVec 5) (sh : ShiftType) (rm : Reg)
    (st : State) : Result :=
  loadOp cond (Restriction.transfer false true rn rd (some rm)) [rn, rm] .byte false
    false u true rn rd (fun st => (shiftByImmediate st.cpsr.c sh (st.reg rm) shamt.toNat).value) st

/-- STR, rule R267 of 43_load_store.md. -/
def execStrImm (cond : Cond) (u : Bool) (w : Bool) (rn : Reg) (rd : Reg) (off : BitVec 12) (st : State) : Result :=
  storeOp cond (Restriction.transfer true w rn rd none) [rn, rd] .word false
    true u w rn rd (fun _ => off.setWidth 32) st

/-- STR, rule R267 of 43_load_store.md. -/
def execStrImmPost (cond : Cond) (u : Bool) (rn : Reg) (rd : Reg) (off : BitVec 12) (st : State) : Result :=
  storeOp cond (Restriction.transfer true true rn rd none) [rn, rd] .word false
    false u true rn rd (fun _ => off.setWidth 32) st

/-- STR, rule R267 of 43_load_store.md. -/
def execStrReg (cond : Cond) (u : Bool) (w : Bool) (rn : Reg) (rd : Reg) (shamt : BitVec 5) (sh : ShiftType) (rm : Reg)
    (st : State) : Result :=
  storeOp cond (Restriction.transfer true w rn rd (some rm)) [rn, rm, rd] .word false
    true u w rn rd (fun st => (shiftByImmediate st.cpsr.c sh (st.reg rm) shamt.toNat).value) st

/-- STR, rule R267 of 43_load_store.md. -/
def execStrRegPost (cond : Cond) (u : Bool) (rn : Reg) (rd : Reg) (shamt : BitVec 5) (sh : ShiftType) (rm : Reg)
    (st : State) : Result :=
  storeOp cond (Restriction.transfer true true rn rd (some rm)) [rn, rm, rd] .word false
    false u true rn rd (fun st => (shiftByImmediate st.cpsr.c sh (st.reg rm) shamt.toNat).value) st

/-- STRB, rule R268 of 43_load_store.md. -/
def execStrbImm (cond : Cond) (u : Bool) (w : Bool) (rn : Reg) (rd : Reg) (off : BitVec 12) (st : State) : Result :=
  storeOp cond (Restriction.transfer false w rn rd none) [rn, rd] .byte false
    true u w rn rd (fun _ => off.setWidth 32) st

/-- STRB, rule R268 of 43_load_store.md. -/
def execStrbImmPost (cond : Cond) (u : Bool) (rn : Reg) (rd : Reg) (off : BitVec 12) (st : State) : Result :=
  storeOp cond (Restriction.transfer false true rn rd none) [rn, rd] .byte false
    false u true rn rd (fun _ => off.setWidth 32) st

/-- STRB, rule R268 of 43_load_store.md. -/
def execStrbReg (cond : Cond) (u : Bool) (w : Bool) (rn : Reg) (rd : Reg) (shamt : BitVec 5) (sh : ShiftType) (rm : Reg)
    (st : State) : Result :=
  storeOp cond (Restriction.transfer false w rn rd (some rm)) [rn, rm, rd] .byte false
    true u w rn rd (fun st => (shiftByImmediate st.cpsr.c sh (st.reg rm) shamt.toNat).value) st

/-- STRB, rule R268 of 43_load_store.md. -/
def execStrbRegPost (cond : Cond) (u : Bool) (rn : Reg) (rd : Reg) (shamt : BitVec 5) (sh : ShiftType) (rm : Reg)
    (st : State) : Result :=
  storeOp cond (Restriction.transfer false true rn rd (some rm)) [rn, rm, rd] .byte false
    false u true rn rd (fun st => (shiftByImmediate st.cpsr.c sh (st.reg rm) shamt.toNat).value) st

/-- LDRT, rule R271 of 43_load_store.md: the access is made as from User mode (R266). -/
def execLdrtImm (cond : Cond) (u : Bool) (rn : Reg) (rd : Reg) (off : BitVec 12) (st : State) : Result :=
  loadOp cond (Restriction.transfer false true rn rd none) [rn] .word true
    false u true rn rd (fun _ => off.setWidth 32) st

/-- LDRT, rule R271 of 43_load_store.md: the access is made as from User mode (R266). -/
def execLdrtReg (cond : Cond) (u : Bool) (rn : Reg) (rd : Reg) (shamt : BitVec 5) (sh : ShiftType) (rm : Reg)
    (st : State) : Result :=
  loadOp cond (Restriction.transfer false true rn rd (some rm)) [rn, rm] .word true
    false u true rn rd (fun st => (shiftByImmediate st.cpsr.c sh (st.reg rm) shamt.toNat).value) st

/-- LDRBT, rule R272 of 43_load_store.md: the access is made as from User mode (R266). -/
def execLdrbtImm (cond : Cond) (u : Bool) (rn : Reg) (rd : Reg) (off : BitVec 12) (st : State) : Result :=
  loadOp cond (Restriction.transfer false true rn rd none) [rn] .byte true
    false u true rn rd (fun _ => off.setWidth 32) st

/-- LDRBT, rule R272 of 43_load_store.md: the access is made as from User mode (R266). -/
def execLdrbtReg (cond : Cond) (u : Bool) (rn : Reg) (rd : Reg) (shamt : BitVec 5) (sh : ShiftType) (rm : Reg)
    (st : State) : Result :=
  loadOp cond (Restriction.transfer false true rn rd (some rm)) [rn, rm] .byte true
    false u true rn rd (fun st => (shiftByImmediate st.cpsr.c sh (st.reg rm) shamt.toNat).value) st

/-- STRT, rule R273 of 43_load_store.md: the access is made as from User mode (R266). -/
def execStrtImm (cond : Cond) (u : Bool) (rn : Reg) (rd : Reg) (off : BitVec 12) (st : State) : Result :=
  storeOp cond (Restriction.transfer false true rn rd none) [rn, rd] .word true
    false u true rn rd (fun _ => off.setWidth 32) st

/-- STRT, rule R273 of 43_load_store.md: the access is made as from User mode (R266). -/
def execStrtReg (cond : Cond) (u : Bool) (rn : Reg) (rd : Reg) (shamt : BitVec 5) (sh : ShiftType) (rm : Reg)
    (st : State) : Result :=
  storeOp cond (Restriction.transfer false true rn rd (some rm)) [rn, rm, rd] .word true
    false u true rn rd (fun st => (shiftByImmediate st.cpsr.c sh (st.reg rm) shamt.toNat).value) st

/-- STRBT, rule R274 of 43_load_store.md: the access is made as from User mode (R266). -/
def execStrbtImm (cond : Cond) (u : Bool) (rn : Reg) (rd : Reg) (off : BitVec 12) (st : State) : Result :=
  storeOp cond (Restriction.transfer false true rn rd none) [rn, rd] .byte true
    false u true rn rd (fun _ => off.setWidth 32) st

/-- STRBT, rule R274 of 43_load_store.md: the access is made as from User mode (R266). -/
def execStrbtReg (cond : Cond) (u : Bool) (rn : Reg) (rd : Reg) (shamt : BitVec 5) (sh : ShiftType) (rm : Reg)
    (st : State) : Result :=
  storeOp cond (Restriction.transfer false true rn rd (some rm)) [rn, rm, rd] .byte true
    false u true rn rd (fun st => (shiftByImmediate st.cpsr.c sh (st.reg rm) shamt.toNat).value) st

/-- LDRH, rule R275 of 43_load_store.md. -/
def execLdrhReg (cond : Cond) (p : Bool) (u : Bool) (w : Bool) (rn : Reg) (rd : Reg) (rm : Reg)
    (st : State) : Result :=
  loadOp cond (Restriction.halfword p w rn rd (some rm)) [rn, rm] .half false
    p u (!p || w) rn rd (fun st => st.reg rm) st

/-- LDRH, rule R275 of 43_load_store.md. -/
def execLdrhImm (cond : Cond) (p : Bool) (u : Bool) (w : Bool) (rn : Reg) (rd : Reg) (off : BitVec 8)
    (st : State) : Result :=
  loadOp cond (Restriction.halfword p w rn rd none) [rn] .half false
    p u (!p || w) rn rd (fun _ => off.setWidth 32) st

/-- LDRSB, rule R276 of 43_load_store.md. -/
def execLdrsbReg (cond : Cond) (p : Bool) (u : Bool) (w : Bool) (rn : Reg) (rd : Reg) (rm : Reg)
    (st : State) : Result :=
  loadOp cond (Restriction.halfword p w rn rd (some rm)) [rn, rm] .signedByte false
    p u (!p || w) rn rd (fun st => st.reg rm) st

/-- LDRSB, rule R276 of 43_load_store.md. -/
def execLdrsbImm (cond : Cond) (p : Bool) (u : Bool) (w : Bool) (rn : Reg) (rd : Reg) (off : BitVec 8)
    (st : State) : Result :=
  loadOp cond (Restriction.halfword p w rn rd none) [rn] .signedByte false
    p u (!p || w) rn rd (fun _ => off.setWidth 32) st

/-- LDRSH, rule R277 of 43_load_store.md. -/
def execLdrshReg (cond : Cond) (p : Bool) (u : Bool) (w : Bool) (rn : Reg) (rd : Reg) (rm : Reg)
    (st : State) : Result :=
  loadOp cond (Restriction.halfword p w rn rd (some rm)) [rn, rm] .signedHalf false
    p u (!p || w) rn rd (fun st => st.reg rm) st

/-- LDRSH, rule R277 of 43_load_store.md. -/
def execLdrshImm (cond : Cond) (p : Bool) (u : Bool) (w : Bool) (rn : Reg) (rd : Reg) (off : BitVec 8)
    (st : State) : Result :=
  loadOp cond (Restriction.halfword p w rn rd none) [rn] .signedHalf false
    p u (!p || w) rn rd (fun _ => off.setWidth 32) st

/-- STRH, rule R278 of 43_load_store.md. -/
def execStrhReg (cond : Cond) (p : Bool) (u : Bool) (w : Bool) (rn : Reg) (rd : Reg) (rm : Reg)
    (st : State) : Result :=
  storeOp cond (Restriction.halfword p w rn rd (some rm)) [rn, rm, rd] .half false
    p u (!p || w) rn rd (fun st => st.reg rm) st

/-- STRH, rule R278 of 43_load_store.md. -/
def execStrhImm (cond : Cond) (p : Bool) (u : Bool) (w : Bool) (rn : Reg) (rd : Reg) (off : BitVec 8)
    (st : State) : Result :=
  storeOp cond (Restriction.halfword p w rn rd none) [rn, rd] .half false
    p u (!p || w) rn rd (fun _ => off.setWidth 32) st

end Sys2Proof.Machine
end

