-- ==== Sys2Proof/Machine/Multiply.lean ====
section
/-! DEFINITION. The six multiplies, 41_multiply.md. -/

namespace Sys2Proof.Machine

/-- The end of a 32-bit multiply, rules R221, R225 and R226. -/
def multiplyFinish (s : Bool) (rd : Reg) (r : Word) (st : State) : Result :=
  ((if s then st.multiplyFlags r else st).setReg rd r).advance

/-- The end of a long multiply, rules R221 and R227 to R230. -/
def longMultiplyFinish (s : Bool) (rdHi rdLo : Reg) (r : BitVec 64) (st : State) : Result :=
  (((if s then st.longMultiplyFlags r else st).setReg rdLo (r.extractLsb' 0 32)).setReg rdHi (r.extractLsb' 32 32)).advance

/-- The 64-bit accumulator RdHi : RdLo (rules R228 and R230). -/
def State.accumulator (st : State) (rdHi rdLo : Reg) : Nat := (st.reg rdHi).toNat * 2^32 + (st.reg rdLo).toNat

/-- MUL, rule R225 of 41_multiply.md. -/
def execMul (cond : Cond) (s : Bool) (rd : Reg) (rn : Reg) (rs : Reg) (rm : Reg) (st : State) : Result :=
  runArm cond (Instr.restriction (.mul cond s rd rn rs rm)) [rm, rs] st fun st =>
    multiplyFinish s rd (BitVec.ofNat 32 ((st.reg rm).toNat * (st.reg rs).toNat)) st

/-- MLA, rule R226 of 41_multiply.md. -/
def execMla (cond : Cond) (s : Bool) (rd : Reg) (rn : Reg) (rs : Reg) (rm : Reg) (st : State) : Result :=
  runArm cond (Instr.restriction (.mla cond s rd rn rs rm)) [rm, rs, rn] st fun st =>
    multiplyFinish s rd (BitVec.ofNat 32 ((st.reg rm).toNat * (st.reg rs).toNat + (st.reg rn).toNat)) st

/-- UMULL, rule R227 of 41_multiply.md. -/
def execUmull (cond : Cond) (s : Bool) (rdHi : Reg) (rdLo : Reg) (rs : Reg) (rm : Reg) (st : State) : Result :=
  runArm cond (Restriction.longMultiply rdHi rdLo rs rm) [rm, rs] st fun st =>
    longMultiplyFinish s rdHi rdLo (BitVec.ofNat 64 ((st.reg rm).toNat * (st.reg rs).toNat)) st

/-- UMLAL, rule R228 of 41_multiply.md. -/
def execUmlal (cond : Cond) (s : Bool) (rdHi : Reg) (rdLo : Reg) (rs : Reg) (rm : Reg) (st : State) : Result :=
  runArm cond (Restriction.longMultiply rdHi rdLo rs rm) [rm, rs, rdHi, rdLo] st fun st =>
    longMultiplyFinish s rdHi rdLo
      (BitVec.ofNat 64 ((st.reg rm).toNat * (st.reg rs).toNat + st.accumulator rdHi rdLo)) st

/-- SMULL, rule R229 of 41_multiply.md. -/
def execSmull (cond : Cond) (s : Bool) (rdHi : Reg) (rdLo : Reg) (rs : Reg) (rm : Reg) (st : State) : Result :=
  runArm cond (Restriction.longMultiply rdHi rdLo rs rm) [rm, rs] st fun st =>
    longMultiplyFinish s rdHi rdLo (BitVec.ofInt 64 ((st.reg rm).toInt * (st.reg rs).toInt)) st

/-- SMLAL, rule R230 of 41_multiply.md. -/
def execSmlal (cond : Cond) (s : Bool) (rdHi : Reg) (rdLo : Reg) (rs : Reg) (rm : Reg) (st : State) : Result :=
  runArm cond (Restriction.longMultiply rdHi rdLo rs rm) [rm, rs, rdHi, rdLo] st fun st =>
    longMultiplyFinish s rdHi rdLo
      (BitVec.ofInt 64 ((st.reg rm).toInt * (st.reg rs).toInt + (st.accumulator rdHi rdLo : Int))) st

end Sys2Proof.Machine
end

