-- ==== Sys2Proof/Machine/StatusTransfer.lean ====
section
/-! DEFINITION. MRS and MSR, rules R203 to R205 of 40_data_processing.md. -/

namespace Sys2Proof.Machine

/-- The reserved bits [27:8] that a field mask selects (rule R205): `f` bits [27:24], `s` [23:16], `x` [15:8]. -/
def reservedMask (mask : BitVec 4) : BitVec 20 :=
  (if mask.getLsbD 3 then 0xF0000#20 else 0#20) ||| (if mask.getLsbD 2 then 0x0FF00#20 else 0#20) |||
    (if mask.getLsbD 1 then 0x000FF#20 else 0#20)

/-- The reserved bits last read from a mode's SPSR; none in User and System mode, which have no SPSR. -/
def PsrReads.spsr (r : PsrReads) : Mode → Option (BitVec 20)
  | .fiq => r.fiq | .irq => r.irq | .svc => r.svc | .abt => r.abt | .und => r.und
  | .usr => Option.none | .sys => Option.none

/-- Remembering the reserved bits read from a mode's SPSR. -/
def PsrReads.setSpsr (r : PsrReads) (m : Mode) (v : BitVec 20) : PsrReads :=
  match m with
  | .fiq => { r with fiq := some v }
  | .irq => { r with irq := some v }
  | .svc => { r with svc := some v }
  | .abt => { r with abt := some v }
  | .und => { r with und := some v }
  | .usr => r
  | .sys => r

/-- Whether a write of `v` under the mask changes reserved bits from the value last read (rule R42 of 10_state.md, decision
D13); a status register of which MRS has read none may be written with any (log entry 9). -/
def changesReserved (last : Option (BitVec 20)) (mask : BitVec 4) (v : Word) : Bool :=
  match last with
  | none => false
  | some r => decide ((v.extractLsb' 8 20 ^^^ r) &&& reservedMask mask ≠ 0#20)

/-- The fields that the mask selects, from the bits of `v` (rules R37 and R205), the reserved bits among them. -/
def Psr.writeFields (p : Psr) (mask : BitVec 4) (v : Word) : Psr :=
  let f := mask.getLsbD 3
  let c := mask.getLsbD 0
  { p with
    n := if f then v.getLsbD 31 else p.n
    z := if f then v.getLsbD 30 else p.z
    c := if f then v.getLsbD 29 else p.c
    v := if f then v.getLsbD 28 else p.v
    reserved := (p.reserved &&& ~~~reservedMask mask) ||| (v.extractLsb' 8 20 &&& reservedMask mask)
    i := if c then v.getLsbD 7 else p.i
    f := if c then v.getLsbD 6 else p.f
    t := if c then v.getLsbD 5 else p.t
    m := if c then v.setWidth 5 else p.m }

/-- The field mask that takes effect on the CPSR: in User mode only the flag byte (rule R204), but in debug state a mode
change can occur from any mode (rule R556 (f) of 61_debug.md). -/
def State.effectiveMask (st : State) (mask : BitVec 4) : BitVec 4 :=
  if st.isPriv || st.dbg.inDebug then mask else mask &&& 0b1000#4

/-- MSR with the operand `v`, rule R204: refused where it would change T (R40) or reserved bits from the value last read (R42),
and for the SPSR in User and System mode (R36). -/
def msr (r : Bool) (mask : BitVec 4) (v : Word) (st : State) : Result :=
  if r then
    match st.spsr.get st.mode with
    | none => .refused .noSpsr
    | some p =>
      if changesReserved (st.psrRead.spsr st.mode) mask v then .refused .reservedBits
      else ({ st with spsr := st.spsr.set st.mode (p.writeFields mask v) } : State).advance
  else
    let mask := st.effectiveMask mask
    if mask.getLsbD 0 ∧ v.getLsbD 5 ≠ st.cpsr.t then .refused .stateBit
    else if changesReserved st.psrRead.cpsr mask v then .refused .reservedBits
    else ({ st with cpsr := st.cpsr.writeFields mask v } : State).advance

/-- The status register as MRS reads it: its reserved bits are any value (rule R42 of 10_state.md). -/
def State.readPsr (st : State) (p : Psr) : Psr := { p with reserved := st.freeWord.setWidth 20 }

/-- MRS, rule R203, remembering the reserved bits read (R42); the SPSR in User and System mode does not exist: fault (rule R36 of 10_state.md). -/
def mrs (r : Bool) (rd : Reg) (st : State) : Result :=
  if r then
    match st.spsr.get st.mode with
    | none => .fault .noSpsr
    | some p =>
      let q := st.readPsr p
      (({ st.drawn with spsr := st.spsr.set st.mode q, psrRead := st.psrRead.setSpsr st.mode q.reserved } : State).setReg rd
        q.toWord).advance
  else
    let q := st.readPsr st.cpsr
    (({ st.drawn with cpsr := q, psrRead := { st.psrRead with cpsr := some q.reserved } } : State).setReg rd q.toWord).advance

/-- MRS, rule R203 of 40_data_processing.md. -/
def execMrs (cond : Cond) (r : Bool) (rd : Reg) (st : State) : Result :=
  runArm cond (Restriction.psr rd) [] st (mrs r rd)

/-- MSR, rule R204 of 40_data_processing.md. -/
def execMsrReg (cond : Cond) (r : Bool) (mask : BitVec 4) (rm : Reg) (st : State) : Result :=
  runArm cond (Restriction.psr rm) [rm] st fun st => msr r mask (st.reg rm) st

/-- MSR, rule R204 of 40_data_processing.md. -/
def execMsrImm (cond : Cond) (r : Bool) (mask : BitVec 4) (rot : BitVec 4) (imm : BitVec 8) (st : State) : Result :=
  runArm cond none [] st fun st => msr r mask (immediateOperand st.cpsr.c rot imm).value st

end Sys2Proof.Machine
end

