-- ==== Sys2Proof/Machine/Swap.lean ====
section
/-! DEFINITION. SWP and SWPB, 45_swap.md. -/

namespace Sys2Proof.Machine

/-- Rules R316 to R319: a locked read, then a locked write of Rm, then Rd; an abort on the read suppresses the write, an abort
on either leaves Rd alone. -/
def swap (k : LoadKind) (rn rd rm : Reg) (st : State) : Result :=
  let addr := st.reg rn
  let src := st.reg rm
  if st.loadMisaligned addr k.size then .refused .misaligned
  else
    match st.dataRead addr k.size st.isPriv true with
    | .refused r => .refused r
    | .abort s1 => .next (s1.takeException .dabt)
    | .ok d s1 =>
      match s1.dataWrite addr k.size src st.isPriv true with
      | .refused r => .refused r
      | .abort s2 => .next (s2.takeException .dabt)
      | .ok _ s2 => (s2.setReg rd (k.extend addr d)).advance

/-- SWP, rule R320 of 45_swap.md. -/
def execSwp (cond : Cond) (rn : Reg) (rd : Reg) (rm : Reg) (st : State) : Result :=
  runArm cond (Restriction.swap rn rd rm) [rn, rm] st (swap .word rn rd rm)

/-- SWPB, rule R321 of 45_swap.md. -/
def execSwpb (cond : Cond) (rn : Reg) (rd : Reg) (rm : Reg) (st : State) : Result :=
  runArm cond (Restriction.swap rn rd rm) [rn, rm] st (swap .byte rn rd rm)

end Sys2Proof.Machine
end

