-- ==== Sys2Proof/Machine/ThumbAlu.lean ====
section
/-! DEFINITION. The Thumb data-processing instructions, 48_thumb_alu.md. -/

namespace Sys2Proof.Machine

/-- An unshifted operand: the carry passes through (rule R366). -/
def State.plain (st : State) (v : Word) : Shifted := ⟨v, st.cpsr.c⟩

/-- Rd shifted by the low byte of Rs (rules R382 to R384 and R387). -/
def State.shiftedByReg (st : State) (sh : ShiftType) (rd rs : LReg) : Shifted :=
  shiftByRegister st.cpsr.c sh (st.reg rd.reg) (shiftAmount (st.reg rs.reg))

/-- A Thumb data-processing instruction that sets the flags: the ARM operation with S of rule R146 of 30_encoding.md. -/
def thumbAlu (op : DpOp) (rd : Reg) (st : State) (a : State → Word) (b : State → Shifted) : Result :=
  runThumb none [] st fun st => dpFinish op true rd (a st) (b st) st

/-- LSL, rule R368 of 48_thumb_alu.md. -/
def execTLslImm (rd : LReg) (rs : LReg) (amount : BitVec 5) (st : State) : Result :=
  thumbAlu .mov rd.reg st (fun _ => 0) (fun st => shiftByImmediate st.cpsr.c .lsl (st.reg rs.reg) amount.toNat)

/-- LSR, rule R369 of 48_thumb_alu.md. -/
def execTLsrImm (rd : LReg) (rs : LReg) (amount : BitVec 5) (st : State) : Result :=
  thumbAlu .mov rd.reg st (fun _ => 0) (fun st => shiftByImmediate st.cpsr.c .lsr (st.reg rs.reg) amount.toNat)

/-- ASR, rule R370 of 48_thumb_alu.md. -/
def execTAsrImm (rd : LReg) (rs : LReg) (amount : BitVec 5) (st : State) : Result :=
  thumbAlu .mov rd.reg st (fun _ => 0) (fun st => shiftByImmediate st.cpsr.c .asr (st.reg rs.reg) amount.toNat)

/-- ADD, rule R371 of 48_thumb_alu.md. -/
def execTAddReg (rd : LReg) (rs : LReg) (rn : LReg) (st : State) : Result :=
  thumbAlu .add rd.reg st (fun st => st.reg rs.reg) (fun st => st.plain (st.reg rn.reg))

/-- SUB, rule R372 of 48_thumb_alu.md. -/
def execTSubReg (rd : LReg) (rs : LReg) (rn : LReg) (st : State) : Result :=
  thumbAlu .sub rd.reg st (fun st => st.reg rs.reg) (fun st => st.plain (st.reg rn.reg))

/-- ADD, rule R373 of 48_thumb_alu.md. -/
def execTAddImm3 (rd : LReg) (rs : LReg) (imm : BitVec 3) (st : State) : Result :=
  thumbAlu .add rd.reg st (fun st => st.reg rs.reg) (fun st => st.plain (imm.setWidth 32))

/-- SUB, rule R374 of 48_thumb_alu.md. -/
def execTSubImm3 (rd : LReg) (rs : LReg) (imm : BitVec 3) (st : State) : Result :=
  thumbAlu .sub rd.reg st (fun st => st.reg rs.reg) (fun st => st.plain (imm.setWidth 32))

/-- MOV, rule R375 of 48_thumb_alu.md. -/
def execTMovImm (rd : LReg) (imm : BitVec 8) (st : State) : Result :=
  thumbAlu .mov rd.reg st (fun _ => 0) (fun st => st.plain (imm.setWidth 32))

/-- CMP, rule R376 of 48_thumb_alu.md. -/
def execTCmpImm (rd : LReg) (imm : BitVec 8) (st : State) : Result :=
  thumbAlu .cmp rd.reg st (fun st => st.reg rd.reg) (fun st => st.plain (imm.setWidth 32))

/-- ADD, rule R377 of 48_thumb_alu.md. -/
def execTAddImm8 (rd : LReg) (imm : BitVec 8) (st : State) : Result :=
  thumbAlu .add rd.reg st (fun st => st.reg rd.reg) (fun st => st.plain (imm.setWidth 32))

/-- SUB, rule R378 of 48_thumb_alu.md. -/
def execTSubImm8 (rd : LReg) (imm : BitVec 8) (st : State) : Result :=
  thumbAlu .sub rd.reg st (fun st => st.reg rd.reg) (fun st => st.plain (imm.setWidth 32))

/-- AND, rule R380 of 48_thumb_alu.md. -/
def execTAnd (rd : LReg) (rs : LReg) (st : State) : Result :=
  thumbAlu .and rd.reg st (fun st => st.reg rd.reg) (fun st => st.plain (st.reg rs.reg))

/-- EOR, rule R381 of 48_thumb_alu.md. -/
def execTEor (rd : LReg) (rs : LReg) (st : State) : Result :=
  thumbAlu .eor rd.reg st (fun st => st.reg rd.reg) (fun st => st.plain (st.reg rs.reg))

/-- LSL, rule R382 of 48_thumb_alu.md. -/
def execTLslReg (rd : LReg) (rs : LReg) (st : State) : Result :=
  thumbAlu .mov rd.reg st (fun _ => 0) (fun st => st.shiftedByReg .lsl rd rs)

/-- LSR, rule R383 of 48_thumb_alu.md. -/
def execTLsrReg (rd : LReg) (rs : LReg) (st : State) : Result :=
  thumbAlu .mov rd.reg st (fun _ => 0) (fun st => st.shiftedByReg .lsr rd rs)

/-- ASR, rule R384 of 48_thumb_alu.md. -/
def execTAsrReg (rd : LReg) (rs : LReg) (st : State) : Result :=
  thumbAlu .mov rd.reg st (fun _ => 0) (fun st => st.shiftedByReg .asr rd rs)

/-- ADC, rule R385 of 48_thumb_alu.md. -/
def execTAdc (rd : LReg) (rs : LReg) (st : State) : Result :=
  thumbAlu .adc rd.reg st (fun st => st.reg rd.reg) (fun st => st.plain (st.reg rs.reg))

/-- SBC, rule R386 of 48_thumb_alu.md. -/
def execTSbc (rd : LReg) (rs : LReg) (st : State) : Result :=
  thumbAlu .sbc rd.reg st (fun st => st.reg rd.reg) (fun st => st.plain (st.reg rs.reg))

/-- ROR, rule R387 of 48_thumb_alu.md. -/
def execTRorReg (rd : LReg) (rs : LReg) (st : State) : Result :=
  thumbAlu .mov rd.reg st (fun _ => 0) (fun st => st.shiftedByReg .ror rd rs)

/-- TST, rule R388 of 48_thumb_alu.md. -/
def execTTst (rd : LReg) (rs : LReg) (st : State) : Result :=
  thumbAlu .tst rd.reg st (fun st => st.reg rd.reg) (fun st => st.plain (st.reg rs.reg))

/-- NEG, rule R389 of 48_thumb_alu.md. -/
def execTNeg (rd : LReg) (rs : LReg) (st : State) : Result :=
  thumbAlu .rsb rd.reg st (fun st => st.reg rs.reg) (fun st => st.plain 0)

/-- CMP, rule R390 of 48_thumb_alu.md. -/
def execTCmpReg (rd : LReg) (rs : LReg) (st : State) : Result :=
  thumbAlu .cmp rd.reg st (fun st => st.reg rd.reg) (fun st => st.plain (st.reg rs.reg))

/-- CMN, rule R391 of 48_thumb_alu.md. -/
def execTCmn (rd : LReg) (rs : LReg) (st : State) : Result :=
  thumbAlu .cmn rd.reg st (fun st => st.reg rd.reg) (fun st => st.plain (st.reg rs.reg))

/-- ORR, rule R392 of 48_thumb_alu.md. -/
def execTOrr (rd : LReg) (rs : LReg) (st : State) : Result :=
  thumbAlu .orr rd.reg st (fun st => st.reg rd.reg) (fun st => st.plain (st.reg rs.reg))

/-- MUL, rule R393 of 48_thumb_alu.md. -/
def execTMul (rd : LReg) (rs : LReg) (st : State) : Result :=
  runThumb (Instr.restriction (.tMul rd rs)) [] st fun st =>
    let r := BitVec.ofNat 32 ((st.reg rd.reg).toNat * (st.reg rs.reg).toNat)
    ((st.multiplyFlags r).setReg rd.reg r).advance

/-- BIC, rule R394 of 48_thumb_alu.md. -/
def execTBic (rd : LReg) (rs : LReg) (st : State) : Result :=
  thumbAlu .bic rd.reg st (fun st => st.reg rd.reg) (fun st => st.plain (st.reg rs.reg))

/-- MVN, rule R395 of 48_thumb_alu.md. -/
def execTMvn (rd : LReg) (rs : LReg) (st : State) : Result :=
  thumbAlu .mvn rd.reg st (fun _ => 0) (fun st => st.plain (st.reg rs.reg))

/-- ADD, rule R396 of 48_thumb_alu.md. -/
def execTAddHi (rd : Reg) (rs : Reg) (st : State) : Result :=
  runThumb (Restriction.highRegisters rd rs) [rd, rs] st fun st =>
    st.writeAndAdvance rd (st.reg rd + st.reg rs)

/-- CMP, rule R397 of 48_thumb_alu.md. -/
def execTCmpHi (rd : Reg) (rs : Reg) (st : State) : Result :=
  runThumb (Restriction.highRegisters rd rs) [rd, rs] st fun st =>
    dpFinish .cmp true rd (st.reg rd) (st.plain (st.reg rs)) st

/-- MOV, rule R398 of 48_thumb_alu.md. -/
def execTMovHi (rd : Reg) (rs : Reg) (st : State) : Result :=
  runThumb (Restriction.highRegisters rd rs) [rs] st fun st => st.writeAndAdvance rd (st.reg rs)

/-- ADD, rule R404 of 48_thumb_alu.md. -/
def execTAddPc (rd : LReg) (off : BitVec 8) (st : State) : Result :=
  runThumb none [] st fun st =>
    (st.setReg rd.reg ((st.pcRead &&& 0xFFFFFFFC#32) + 4 * off.setWidth 32)).advance

/-- ADD, rule R405 of 48_thumb_alu.md. -/
def execTAddSp (rd : LReg) (off : BitVec 8) (st : State) : Result :=
  runThumb none [13#4] st fun st => (st.setReg rd.reg (st.reg 13#4 + 4 * off.setWidth 32)).advance

/-- ADD, rule R406 of 48_thumb_alu.md. -/
def execTIncSp (off : BitVec 7) (st : State) : Result :=
  runThumb none [13#4] st fun st => (st.setReg 13#4 (st.reg 13#4 + 4 * off.setWidth 32)).advance

/-- ADD, rule R407 of 48_thumb_alu.md. -/
def execTDecSp (off : BitVec 7) (st : State) : Result :=
  runThumb none [13#4] st fun st => (st.setReg 13#4 (st.reg 13#4 - 4 * off.setWidth 32)).advance

end Sys2Proof.Machine
end

