-- ==== Sys2Proof/Machine/ThumbMemory.lean ====
section
/-! DEFINITION. The Thumb loads, stores and multiple transfers, 49_thumb_mem_branch.md. -/

namespace Sys2Proof.Machine

/-- A Thumb single load, rule R425: no write-back. -/
def thumbLoad (k : LoadKind) (rd : LReg) (reads : List Reg) (addr : State → Word) (st : State) : Result :=
  runThumb none reads st fun st => singleLoad k false (transferOf true true false (addr st) 0) 0#4 rd.reg st

/-- A Thumb single store, rule R425: no write-back. -/
def thumbStore (z : Size) (rd : LReg) (reads : List Reg) (addr : State → Word) (st : State) : Result :=
  runThumb none reads st fun st => singleStore z false (transferOf true true false (addr st) 0) 0#4 rd.reg st

/-- The register list of a Thumb multiple transfer: the low registers and the extra one of format T14 (rule R446). -/
def thumbList (list : BitVec 8) (extra : BitVec 16) : BitVec 16 := list.setWidth 16 ||| extra

/-- LDR, rule R427 of 49_thumb_mem_branch.md. -/
def execTLdrPc (rd : LReg) (off : BitVec 8) (st : State) : Result :=
  thumbLoad .word rd [] (fun st => (st.pcRead &&& 0xFFFFFFFC#32) + 4 * off.setWidth 32) st

/-- STR, rule R428 of 49_thumb_mem_branch.md. -/
def execTStrReg (rd : LReg) (rb : LReg) (ro : LReg) (st : State) : Result :=
  thumbStore .word rd [] (fun st => st.reg rb.reg + st.reg ro.reg) st

/-- STRH, rule R432 of 49_thumb_mem_branch.md. -/
def execTStrhReg (rd : LReg) (rb : LReg) (ro : LReg) (st : State) : Result :=
  thumbStore .half rd [] (fun st => st.reg rb.reg + st.reg ro.reg) st

/-- STRB, rule R429 of 49_thumb_mem_branch.md. -/
def execTStrbReg (rd : LReg) (rb : LReg) (ro : LReg) (st : State) : Result :=
  thumbStore .byte rd [] (fun st => st.reg rb.reg + st.reg ro.reg) st

/-- LDRSB, rule R434 of 49_thumb_mem_branch.md. -/
def execTLdrsbReg (rd : LReg) (rb : LReg) (ro : LReg) (st : State) : Result :=
  thumbLoad .signedByte rd [] (fun st => st.reg rb.reg + st.reg ro.reg) st

/-- LDR, rule R430 of 49_thumb_mem_branch.md. -/
def execTLdrReg (rd : LReg) (rb : LReg) (ro : LReg) (st : State) : Result :=
  thumbLoad .word rd [] (fun st => st.reg rb.reg + st.reg ro.reg) st

/-- LDRH, rule R433 of 49_thumb_mem_branch.md. -/
def execTLdrhReg (rd : LReg) (rb : LReg) (ro : LReg) (st : State) : Result :=
  thumbLoad .half rd [] (fun st => st.reg rb.reg + st.reg ro.reg) st

/-- LDRB, rule R431 of 49_thumb_mem_branch.md. -/
def execTLdrbReg (rd : LReg) (rb : LReg) (ro : LReg) (st : State) : Result :=
  thumbLoad .byte rd [] (fun st => st.reg rb.reg + st.reg ro.reg) st

/-- LDRSH, rule R435 of 49_thumb_mem_branch.md. -/
def execTLdrshReg (rd : LReg) (rb : LReg) (ro : LReg) (st : State) : Result :=
  thumbLoad .signedHalf rd [] (fun st => st.reg rb.reg + st.reg ro.reg) st

/-- STR, rule R436 of 49_thumb_mem_branch.md. -/
def execTStrImm (rd : LReg) (rb : LReg) (off : BitVec 5) (st : State) : Result :=
  thumbStore .word rd [] (fun st => st.reg rb.reg + 4 * off.setWidth 32) st

/-- LDR, rule R437 of 49_thumb_mem_branch.md. -/
def execTLdrImm (rd : LReg) (rb : LReg) (off : BitVec 5) (st : State) : Result :=
  thumbLoad .word rd [] (fun st => st.reg rb.reg + 4 * off.setWidth 32) st

/-- STRB, rule R438 of 49_thumb_mem_branch.md. -/
def execTStrbImm (rd : LReg) (rb : LReg) (off : BitVec 5) (st : State) : Result :=
  thumbStore .byte rd [] (fun st => st.reg rb.reg + off.setWidth 32) st

/-- LDRB, rule R439 of 49_thumb_mem_branch.md. -/
def execTLdrbImm (rd : LReg) (rb : LReg) (off : BitVec 5) (st : State) : Result :=
  thumbLoad .byte rd [] (fun st => st.reg rb.reg + off.setWidth 32) st

/-- STRH, rule R442 of 49_thumb_mem_branch.md. -/
def execTStrhImm (rd : LReg) (rb : LReg) (off : BitVec 5) (st : State) : Result :=
  thumbStore .half rd [] (fun st => st.reg rb.reg + 2 * off.setWidth 32) st

/-- LDRH, rule R443 of 49_thumb_mem_branch.md. -/
def execTLdrhImm (rd : LReg) (rb : LReg) (off : BitVec 5) (st : State) : Result :=
  thumbLoad .half rd [] (fun st => st.reg rb.reg + 2 * off.setWidth 32) st

/-- STR, rule R450 of 49_thumb_mem_branch.md. -/
def execTStrSp (rd : LReg) (off : BitVec 8) (st : State) : Result :=
  thumbStore .word rd [13#4] (fun st => st.reg 13#4 + 4 * off.setWidth 32) st

/-- LDR, rule R451 of 49_thumb_mem_branch.md. -/
def execTLdrSp (rd : LReg) (off : BitVec 8) (st : State) : Result :=
  thumbLoad .word rd [13#4] (fun st => st.reg 13#4 + 4 * off.setWidth 32) st

/-- PUSH, rule R440 of 49_thumb_mem_branch.md. -/
def execTPush (r : Bool) (list : BitVec 8) (st : State) : Result :=
  runThumb (Instr.restriction (.tPush r list)) (13#4 :: if r then [14#4] else []) st fun st =>
    blockStore .db false true 13#4 (thumbList list (if r then 0x4000#16 else 0)) st

/-- POP, rule R441 of 49_thumb_mem_branch.md. -/
def execTPop (r : Bool) (list : BitVec 8) (st : State) : Result :=
  runThumb (Instr.restriction (.tPop r list)) [13#4] st fun st =>
    blockLoad .ia false true 13#4 (thumbList list (if r then 0x8000#16 else 0)) st

/-- STMIA, rule R444 of 49_thumb_mem_branch.md. -/
def execTStmia (rb : LReg) (list : BitVec 8) (st : State) : Result :=
  runThumb (Instr.restriction (.tStmia rb list)) [] st fun st =>
    blockStore .ia false true rb.reg (list.setWidth 16) st

/-- LDMIA, rule R445 of 49_thumb_mem_branch.md. -/
def execTLdmia (rb : LReg) (list : BitVec 8) (st : State) : Result :=
  runThumb (Instr.restriction (.tLdmia rb list)) [] st fun st =>
    blockLoad .ia false true rb.reg (list.setWidth 16) st

end Sys2Proof.Machine
end

