-- ==== Sys2Proof/Machine/Traps.lean ====
section
/-! DEFINITION. The software interrupt and the undefined instruction trap of both states: 47_swi_undefined.md, and R470 and
R471 of 49_thumb_mem_branch.md. -/

namespace Sys2Proof.Machine

/-- SWI, rule R355 of 47_swi_undefined.md. -/
def execSwi (cond : Cond) (_imm : BitVec 24) (st : State) : Result :=
  runArm cond none [] st fun st => .next (st.takeException .swi)

/-- UNDEFINED, rule R360 of 47_swi_undefined.md. -/
def execUndefined (cond : Cond) (_hi : BitVec 20) (_lo : BitVec 4) (st : State) : Result :=
  runArm cond none [] st fun st => .next (st.takeException .und)

/-- SWI, rule R470 of 49_thumb_mem_branch.md. -/
def execTSwi (_imm : BitVec 8) (st : State) : Result :=
  runThumb none [] st fun st => .next (st.takeException .swi)

/-- UNDEFINED, rule R471 of 49_thumb_mem_branch.md. -/
def execTUndefined (_imm : BitVec 8) (st : State) : Result :=
  runThumb none [] st fun st => .next (st.takeException .und)

end Sys2Proof.Machine
end

