-- ==== Sys2Proof/Machine/Dispatch.lean ====
section
/-! DEFINITION. Which meaning each instruction has: one arm per constructor of `Instr`. -/

namespace Sys2Proof.Machine

def exec (i : Instr) (s : State) : Host.Outcome State Fault Refusal :=
  match i with
  | .bx cond rm => Sys2Proof.Machine.execBx cond rm s
  | .mul cond sf rd rn rs rm => Sys2Proof.Machine.execMul cond sf rd rn rs rm s
  | .mla cond sf rd rn rs rm => Sys2Proof.Machine.execMla cond sf rd rn rs rm s
  | .umull cond sf rdHi rdLo rs rm => Sys2Proof.Machine.execUmull cond sf rdHi rdLo rs rm s
  | .umlal cond sf rdHi rdLo rs rm => Sys2Proof.Machine.execUmlal cond sf rdHi rdLo rs rm s
  | .smull cond sf rdHi rdLo rs rm => Sys2Proof.Machine.execSmull cond sf rdHi rdLo rs rm s
  | .smlal cond sf rdHi rdLo rs rm => Sys2Proof.Machine.execSmlal cond sf rdHi rdLo rs rm s
  | .swp cond rn rd rm => Sys2Proof.Machine.execSwp cond rn rd rm s
  | .swpb cond rn rd rm => Sys2Proof.Machine.execSwpb cond rn rd rm s
  | .strhReg cond p u w rn rd rm => Sys2Proof.Machine.execStrhReg cond p u w rn rd rm s
  | .strhImm cond p u w rn rd off => Sys2Proof.Machine.execStrhImm cond p u w rn rd off s
  | .ldrhReg cond p u w rn rd rm => Sys2Proof.Machine.execLdrhReg cond p u w rn rd rm s
  | .ldrhImm cond p u w rn rd off => Sys2Proof.Machine.execLdrhImm cond p u w rn rd off s
  | .ldrsbReg cond p u w rn rd rm => Sys2Proof.Machine.execLdrsbReg cond p u w rn rd rm s
  | .ldrsbImm cond p u w rn rd off => Sys2Proof.Machine.execLdrsbImm cond p u w rn rd off s
  | .ldrshReg cond p u w rn rd rm => Sys2Proof.Machine.execLdrshReg cond p u w rn rd rm s
  | .ldrshImm cond p u w rn rd off => Sys2Proof.Machine.execLdrshImm cond p u w rn rd off s
  | .mrs cond r rd => Sys2Proof.Machine.execMrs cond r rd s
  | .msrReg cond r mask rm => Sys2Proof.Machine.execMsrReg cond r mask rm s
  | .msrImm cond r mask rot imm => Sys2Proof.Machine.execMsrImm cond r mask rot imm s
  | .andImm cond sf rn rd rot imm => Sys2Proof.Machine.execAndImm cond sf rn rd rot imm s
  | .andShi cond sf rn rd shamt sh rm => Sys2Proof.Machine.execAndShi cond sf rn rd shamt sh rm s
  | .andShr cond sf rn rd rs sh rm => Sys2Proof.Machine.execAndShr cond sf rn rd rs sh rm s
  | .eorImm cond sf rn rd rot imm => Sys2Proof.Machine.execEorImm cond sf rn rd rot imm s
  | .eorShi cond sf rn rd shamt sh rm => Sys2Proof.Machine.execEorShi cond sf rn rd shamt sh rm s
  | .eorShr cond sf rn rd rs sh rm => Sys2Proof.Machine.execEorShr cond sf rn rd rs sh rm s
  | .subImm cond sf rn rd rot imm => Sys2Proof.Machine.execSubImm cond sf rn rd rot imm s
  | .subShi cond sf rn rd shamt sh rm => Sys2Proof.Machine.execSubShi cond sf rn rd shamt sh rm s
  | .subShr cond sf rn rd rs sh rm => Sys2Proof.Machine.execSubShr cond sf rn rd rs sh rm s
  | .rsbImm cond sf rn rd rot imm => Sys2Proof.Machine.execRsbImm cond sf rn rd rot imm s
  | .rsbShi cond sf rn rd shamt sh rm => Sys2Proof.Machine.execRsbShi cond sf rn rd shamt sh rm s
  | .rsbShr cond sf rn rd rs sh rm => Sys2Proof.Machine.execRsbShr cond sf rn rd rs sh rm s
  | .addImm cond sf rn rd rot imm => Sys2Proof.Machine.execAddImm cond sf rn rd rot imm s
  | .addShi cond sf rn rd shamt sh rm => Sys2Proof.Machine.execAddShi cond sf rn rd shamt sh rm s
  | .addShr cond sf rn rd rs sh rm => Sys2Proof.Machine.execAddShr cond sf rn rd rs sh rm s
  | .adcImm cond sf rn rd rot imm => Sys2Proof.Machine.execAdcImm cond sf rn rd rot imm s
  | .adcShi cond sf rn rd shamt sh rm => Sys2Proof.Machine.execAdcShi cond sf rn rd shamt sh rm s
  | .adcShr cond sf rn rd rs sh rm => Sys2Proof.Machine.execAdcShr cond sf rn rd rs sh rm s
  | .sbcImm cond sf rn rd rot imm => Sys2Proof.Machine.execSbcImm cond sf rn rd rot imm s
  | .sbcShi cond sf rn rd shamt sh rm => Sys2Proof.Machine.execSbcShi cond sf rn rd shamt sh rm s
  | .sbcShr cond sf rn rd rs sh rm => Sys2Proof.Machine.execSbcShr cond sf rn rd rs sh rm s
  | .rscImm cond sf rn rd rot imm => Sys2Proof.Machine.execRscImm cond sf rn rd rot imm s
  | .rscShi cond sf rn rd shamt sh rm => Sys2Proof.Machine.execRscShi cond sf rn rd shamt sh rm s
  | .rscShr cond sf rn rd rs sh rm => Sys2Proof.Machine.execRscShr cond sf rn rd rs sh rm s
  | .tstImm cond rn rd rot imm => Sys2Proof.Machine.execTstImm cond rn rd rot imm s
  | .tstShi cond rn rd shamt sh rm => Sys2Proof.Machine.execTstShi cond rn rd shamt sh rm s
  | .tstShr cond rn rd rs sh rm => Sys2Proof.Machine.execTstShr cond rn rd rs sh rm s
  | .teqImm cond rn rd rot imm => Sys2Proof.Machine.execTeqImm cond rn rd rot imm s
  | .teqShi cond rn rd shamt sh rm => Sys2Proof.Machine.execTeqShi cond rn rd shamt sh rm s
  | .teqShr cond rn rd rs sh rm => Sys2Proof.Machine.execTeqShr cond rn rd rs sh rm s
  | .cmpImm cond rn rd rot imm => Sys2Proof.Machine.execCmpImm cond rn rd rot imm s
  | .cmpShi cond rn rd shamt sh rm => Sys2Proof.Machine.execCmpShi cond rn rd shamt sh rm s
  | .cmpShr cond rn rd rs sh rm => Sys2Proof.Machine.execCmpShr cond rn rd rs sh rm s
  | .cmnImm cond rn rd rot imm => Sys2Proof.Machine.execCmnImm cond rn rd rot imm s
  | .cmnShi cond rn rd shamt sh rm => Sys2Proof.Machine.execCmnShi cond rn rd shamt sh rm s
  | .cmnShr cond rn rd rs sh rm => Sys2Proof.Machine.execCmnShr cond rn rd rs sh rm s
  | .orrImm cond sf rn rd rot imm => Sys2Proof.Machine.execOrrImm cond sf rn rd rot imm s
  | .orrShi cond sf rn rd shamt sh rm => Sys2Proof.Machine.execOrrShi cond sf rn rd shamt sh rm s
  | .orrShr cond sf rn rd rs sh rm => Sys2Proof.Machine.execOrrShr cond sf rn rd rs sh rm s
  | .movImm cond sf rn rd rot imm => Sys2Proof.Machine.execMovImm cond sf rn rd rot imm s
  | .movShi cond sf rn rd shamt sh rm => Sys2Proof.Machine.execMovShi cond sf rn rd shamt sh rm s
  | .movShr cond sf rn rd rs sh rm => Sys2Proof.Machine.execMovShr cond sf rn rd rs sh rm s
  | .bicImm cond sf rn rd rot imm => Sys2Proof.Machine.execBicImm cond sf rn rd rot imm s
  | .bicShi cond sf rn rd shamt sh rm => Sys2Proof.Machine.execBicShi cond sf rn rd shamt sh rm s
  | .bicShr cond sf rn rd rs sh rm => Sys2Proof.Machine.execBicShr cond sf rn rd rs sh rm s
  | .mvnImm cond sf rn rd rot imm => Sys2Proof.Machine.execMvnImm cond sf rn rd rot imm s
  | .mvnShi cond sf rn rd shamt sh rm => Sys2Proof.Machine.execMvnShi cond sf rn rd shamt sh rm s
  | .mvnShr cond sf rn rd rs sh rm => Sys2Proof.Machine.execMvnShr cond sf rn rd rs sh rm s
  | .ldrImm cond u w rn rd off => Sys2Proof.Machine.execLdrImm cond u w rn rd off s
  | .ldrImmPost cond u rn rd off => Sys2Proof.Machine.execLdrImmPost cond u rn rd off s
  | .ldrReg cond u w rn rd shamt sh rm => Sys2Proof.Machine.execLdrReg cond u w rn rd shamt sh rm s
  | .ldrRegPost cond u rn rd shamt sh rm => Sys2Proof.Machine.execLdrRegPost cond u rn rd shamt sh rm s
  | .ldrbImm cond u w rn rd off => Sys2Proof.Machine.execLdrbImm cond u w rn rd off s
  | .ldrbImmPost cond u rn rd off => Sys2Proof.Machine.execLdrbImmPost cond u rn rd off s
  | .ldrbReg cond u w rn rd shamt sh rm => Sys2Proof.Machine.execLdrbReg cond u w rn rd shamt sh rm s
  | .ldrbRegPost cond u rn rd shamt sh rm => Sys2Proof.Machine.execLdrbRegPost cond u rn rd shamt sh rm s
  | .strImm cond u w rn rd off => Sys2Proof.Machine.execStrImm cond u w rn rd off s
  | .strImmPost cond u rn rd off => Sys2Proof.Machine.execStrImmPost cond u rn rd off s
  | .strReg cond u w rn rd shamt sh rm => Sys2Proof.Machine.execStrReg cond u w rn rd shamt sh rm s
  | .strRegPost cond u rn rd shamt sh rm => Sys2Proof.Machine.execStrRegPost cond u rn rd shamt sh rm s
  | .strbImm cond u w rn rd off => Sys2Proof.Machine.execStrbImm cond u w rn rd off s
  | .strbImmPost cond u rn rd off => Sys2Proof.Machine.execStrbImmPost cond u rn rd off s
  | .strbReg cond u w rn rd shamt sh rm => Sys2Proof.Machine.execStrbReg cond u w rn rd shamt sh rm s
  | .strbRegPost cond u rn rd shamt sh rm => Sys2Proof.Machine.execStrbRegPost cond u rn rd shamt sh rm s
  | .ldrtImm cond u rn rd off => Sys2Proof.Machine.execLdrtImm cond u rn rd off s
  | .ldrtReg cond u rn rd shamt sh rm => Sys2Proof.Machine.execLdrtReg cond u rn rd shamt sh rm s
  | .ldrbtImm cond u rn rd off => Sys2Proof.Machine.execLdrbtImm cond u rn rd off s
  | .ldrbtReg cond u rn rd shamt sh rm => Sys2Proof.Machine.execLdrbtReg cond u rn rd shamt sh rm s
  | .strtImm cond u rn rd off => Sys2Proof.Machine.execStrtImm cond u rn rd off s
  | .strtReg cond u rn rd shamt sh rm => Sys2Proof.Machine.execStrtReg cond u rn rd shamt sh rm s
  | .strbtImm cond u rn rd off => Sys2Proof.Machine.execStrbtImm cond u rn rd off s
  | .strbtReg cond u rn rd shamt sh rm => Sys2Proof.Machine.execStrbtReg cond u rn rd shamt sh rm s
  | .undefined cond hi lo => Sys2Proof.Machine.execUndefined cond hi lo s
  | .ldmia cond sf w rn list => Sys2Proof.Machine.execLdmia cond sf w rn list s
  | .ldmib cond sf w rn list => Sys2Proof.Machine.execLdmib cond sf w rn list s
  | .ldmda cond sf w rn list => Sys2Proof.Machine.execLdmda cond sf w rn list s
  | .ldmdb cond sf w rn list => Sys2Proof.Machine.execLdmdb cond sf w rn list s
  | .stmia cond sf w rn list => Sys2Proof.Machine.execStmia cond sf w rn list s
  | .stmib cond sf w rn list => Sys2Proof.Machine.execStmib cond sf w rn list s
  | .stmda cond sf w rn list => Sys2Proof.Machine.execStmda cond sf w rn list s
  | .stmdb cond sf w rn list => Sys2Proof.Machine.execStmdb cond sf w rn list s
  | .b cond off => Sys2Proof.Machine.execB cond off s
  | .bl cond off => Sys2Proof.Machine.execBl cond off s
  | .ldc cond p u n w rn crd cpnum off => Sys2Proof.Machine.execLdc cond p u n w rn crd cpnum off s
  | .stc cond p u n w rn crd cpnum off => Sys2Proof.Machine.execStc cond p u n w rn crd cpnum off s
  | .cdp cond op1 crn crd cpnum op2 crm => Sys2Proof.Machine.execCdp cond op1 crn crd cpnum op2 crm s
  | .mcr cond op1 crn rd cpnum op2 crm => Sys2Proof.Machine.execMcr cond op1 crn rd cpnum op2 crm s
  | .mrc cond op1 crn rd cpnum op2 crm => Sys2Proof.Machine.execMrc cond op1 crn rd cpnum op2 crm s
  | .swi cond imm => Sys2Proof.Machine.execSwi cond imm s
  | .tLslImm rd rs amount => Sys2Proof.Machine.execTLslImm rd rs amount s
  | .tLsrImm rd rs amount => Sys2Proof.Machine.execTLsrImm rd rs amount s
  | .tAsrImm rd rs amount => Sys2Proof.Machine.execTAsrImm rd rs amount s
  | .tAddReg rd rs rn => Sys2Proof.Machine.execTAddReg rd rs rn s
  | .tSubReg rd rs rn => Sys2Proof.Machine.execTSubReg rd rs rn s
  | .tAddImm3 rd rs imm => Sys2Proof.Machine.execTAddImm3 rd rs imm s
  | .tSubImm3 rd rs imm => Sys2Proof.Machine.execTSubImm3 rd rs imm s
  | .tMovImm rd imm => Sys2Proof.Machine.execTMovImm rd imm s
  | .tCmpImm rd imm => Sys2Proof.Machine.execTCmpImm rd imm s
  | .tAddImm8 rd imm => Sys2Proof.Machine.execTAddImm8 rd imm s
  | .tSubImm8 rd imm => Sys2Proof.Machine.execTSubImm8 rd imm s
  | .tAnd rd rs => Sys2Proof.Machine.execTAnd rd rs s
  | .tEor rd rs => Sys2Proof.Machine.execTEor rd rs s
  | .tLslReg rd rs => Sys2Proof.Machine.execTLslReg rd rs s
  | .tLsrReg rd rs => Sys2Proof.Machine.execTLsrReg rd rs s
  | .tAsrReg rd rs => Sys2Proof.Machine.execTAsrReg rd rs s
  | .tAdc rd rs => Sys2Proof.Machine.execTAdc rd rs s
  | .tSbc rd rs => Sys2Proof.Machine.execTSbc rd rs s
  | .tRorReg rd rs => Sys2Proof.Machine.execTRorReg rd rs s
  | .tTst rd rs => Sys2Proof.Machine.execTTst rd rs s
  | .tNeg rd rs => Sys2Proof.Machine.execTNeg rd rs s
  | .tCmpReg rd rs => Sys2Proof.Machine.execTCmpReg rd rs s
  | .tCmn rd rs => Sys2Proof.Machine.execTCmn rd rs s
  | .tOrr rd rs => Sys2Proof.Machine.execTOrr rd rs s
  | .tMul rd rs => Sys2Proof.Machine.execTMul rd rs s
  | .tBic rd rs => Sys2Proof.Machine.execTBic rd rs s
  | .tMvn rd rs => Sys2Proof.Machine.execTMvn rd rs s
  | .tAddHi rd rs => Sys2Proof.Machine.execTAddHi rd rs s
  | .tCmpHi rd rs => Sys2Proof.Machine.execTCmpHi rd rs s
  | .tMovHi rd rs => Sys2Proof.Machine.execTMovHi rd rs s
  | .tBx rs => Sys2Proof.Machine.execTBx rs s
  | .tLdrPc rd off => Sys2Proof.Machine.execTLdrPc rd off s
  | .tStrReg rd rb ro => Sys2Proof.Machine.execTStrReg rd rb ro s
  | .tStrhReg rd rb ro => Sys2Proof.Machine.execTStrhReg rd rb ro s
  | .tStrbReg rd rb ro => Sys2Proof.Machine.execTStrbReg rd rb ro s
  | .tLdrsbReg rd rb ro => Sys2Proof.Machine.execTLdrsbReg rd rb ro s
  | .tLdrReg rd rb ro => Sys2Proof.Machine.execTLdrReg rd rb ro s
  | .tLdrhReg rd rb ro => Sys2Proof.Machine.execTLdrhReg rd rb ro s
  | .tLdrbReg rd rb ro => Sys2Proof.Machine.execTLdrbReg rd rb ro s
  | .tLdrshReg rd rb ro => Sys2Proof.Machine.execTLdrshReg rd rb ro s
  | .tStrImm rd rb off => Sys2Proof.Machine.execTStrImm rd rb off s
  | .tLdrImm rd rb off => Sys2Proof.Machine.execTLdrImm rd rb off s
  | .tStrbImm rd rb off => Sys2Proof.Machine.execTStrbImm rd rb off s
  | .tLdrbImm rd rb off => Sys2Proof.Machine.execTLdrbImm rd rb off s
  | .tStrhImm rd rb off => Sys2Proof.Machine.execTStrhImm rd rb off s
  | .tLdrhImm rd rb off => Sys2Proof.Machine.execTLdrhImm rd rb off s
  | .tStrSp rd off => Sys2Proof.Machine.execTStrSp rd off s
  | .tLdrSp rd off => Sys2Proof.Machine.execTLdrSp rd off s
  | .tAddPc rd off => Sys2Proof.Machine.execTAddPc rd off s
  | .tAddSp rd off => Sys2Proof.Machine.execTAddSp rd off s
  | .tIncSp off => Sys2Proof.Machine.execTIncSp off s
  | .tDecSp off => Sys2Proof.Machine.execTDecSp off s
  | .tPush r list => Sys2Proof.Machine.execTPush r list s
  | .tPop r list => Sys2Proof.Machine.execTPop r list s
  | .tStmia rb list => Sys2Proof.Machine.execTStmia rb list s
  | .tLdmia rb list => Sys2Proof.Machine.execTLdmia rb list s
  | .tBeq off => Sys2Proof.Machine.execTBeq off s
  | .tBne off => Sys2Proof.Machine.execTBne off s
  | .tBcs off => Sys2Proof.Machine.execTBcs off s
  | .tBcc off => Sys2Proof.Machine.execTBcc off s
  | .tBmi off => Sys2Proof.Machine.execTBmi off s
  | .tBpl off => Sys2Proof.Machine.execTBpl off s
  | .tBvs off => Sys2Proof.Machine.execTBvs off s
  | .tBvc off => Sys2Proof.Machine.execTBvc off s
  | .tBhi off => Sys2Proof.Machine.execTBhi off s
  | .tBls off => Sys2Proof.Machine.execTBls off s
  | .tBge off => Sys2Proof.Machine.execTBge off s
  | .tBlt off => Sys2Proof.Machine.execTBlt off s
  | .tBgt off => Sys2Proof.Machine.execTBgt off s
  | .tBle off => Sys2Proof.Machine.execTBle off s
  | .tUndefined imm => Sys2Proof.Machine.execTUndefined imm s
  | .tSwi imm => Sys2Proof.Machine.execTSwi imm s
  | .tB off => Sys2Proof.Machine.execTB off s
  | .tBlHi off => Sys2Proof.Machine.execTBlHi off s
  | .tBlLo off => Sys2Proof.Machine.execTBlLo off s

end Sys2Proof.Machine
end

