-- ==== Sys2Proof/Machine/Fetch.lean ====
section
/-! DEFINITION. The instruction fetch, rule R82 of 20_memory.md, and placing an instruction where it is fetched. -/

namespace Sys2Proof.Machine

/-- The size of an instruction (rule R110 of 30_encoding.md). -/
def State.fetchSize (s : State) : Size := if s.cpsr.t then .half else .word

/-- `Fetch(cur)` of rule R82 of 20_memory.md: a read at the program counter with the privilege in force when the instruction
was fetched (rule R98); a device is read as a device (R87), an unmapped address gives any value (R92). -/
def State.fetch (s : State) : Access Word :=
  let z := s.fetchSize
  if s.env.aborting s.pc.toNat z .fetch s.fetchPriv then
    .abort (s.drawn.logged (s.access s.pc z .fetch s.fetchPriv false s.freeWord true false))
  else
    let r := s.readValue s.pc z
    .ok r.1 (r.2.2.logged (s.access s.pc z .fetch s.fetchPriv false r.2.1 false (s.isDevice s.pc)))

/-- Storing bytes from an address up. -/
def Memory.place : Memory → Nat → List Byte → Memory
  | m, _, [] => m
  | m, a, b :: bs => Memory.place (m.write a b) (a + 1) bs

/-- The bytes of an instruction as the hardware stores them (rules R74 and R77 of 20_memory.md). -/
def instructionBytes (big : Bool) (bytes : Nat) (w : Nat) : List Byte :=
  if big then (leBytes bytes w).reverse else leBytes bytes w

/-- The state in which the instruction `w` of a table row of `nbits` bits is the next one fetched: a row of 16 bits is Thumb and
needs T = 1, a row of 32 bits is ARM and needs T = 0; no coprocessor instruction waits, the script is empty, and it is stored at the
program counter (log entry 7). -/
def State.withFetched (s : State) (nbits w : Nat) : State :=
  let thumb := decide (nbits = 16)
  let pc := if thumb then s.pc &&& 0xFFFFFFFE#32 else s.pc &&& 0xFFFFFFFC#32
  { s with
    cpsr := { s.cpsr with t := thumb }
    pc := pc
    waiting := none
    mem := s.mem.place pc.toNat (instructionBytes s.env.params.bigend (if thumb then 2 else 4) w)
    script := [] }

end Sys2Proof.Machine
end

