-- ==== Sys2Proof/Machine/Watch.lean ====
section
/-! DEFINITION. The watchpoint units: the comparison of every bus cycle, rules R555 and R557 of 61_debug.md. -/

namespace Sys2Proof.Machine

/-- C[4:0] of an access: nTRANS, nOPC, MAS[1:0], nRW (rules R51 of 10_state.md and R555). -/
def BusAccess.control (x : BusAccess) : BitVec 5 :=
  BitVec.ofBool x.priv ++ BitVec.ofBool (decide (x.kind ≠ .fetch)) ++ x.size.mas ++ BitVec.ofBool (decide (x.kind = .write))

/-- Whether two vectors agree in every bit that the mask does not disregard (rule R50 of 10_state.md). -/
def agree {n : Nat} (value input mask : BitVec n) : Bool := decide ((value ^^^ input) &&& ~~~mask = 0#n)

/-- `AddrCtlMatch` of rule R555. -/
def Watch.addrCtlMatch (w : Watch) (x : BusAccess) : Bool :=
  agree w.addrValue x.addr w.addrMask && agree (w.ctlValue.extractLsb' 0 5) x.control (w.ctlMask.extractLsb' 0 5)

/-- `DataCplMatch` of rule R555; `lanes` holds the bits of the data bus that are not compared. -/
def Watch.dataCplMatch (w : Watch) (x : BusAccess) (lanes : Word) (range chain extern : Bool) : Bool :=
  agree w.dataValue x.data (w.dataMask ||| lanes) &&
    agree (w.ctlValue.extractLsb' 5 3) (BitVec.ofBool range ++ BitVec.ofBool chain ++ BitVec.ofBool extern)
      (w.ctlMask.extractLsb' 5 3)

/-- ENABLE, bit 8 of the control value (rule R51 of 10_state.md). -/
def Watch.enabled (w : Watch) : Bool := w.ctlValue.getLsbD 8

/-- The data bus bits a comparison leaves out: for a Thumb fetch the half that is not valid (rule R555). -/
def uncomparedLanes (big : Bool) (x : BusAccess) : Word :=
  if x.kind = .fetch ∧ x.size = .half then (if x.addr.getLsbD 1 = big then 0xFFFF0000#32 else 0x0000FFFF#32) else 0#32

/-- The CHAINOUT latch after a cycle (rule R557): loaded with `DataCplMatch` where `AddrCtlMatch` holds. -/
def Watch.latched (w : Watch) (addrCtl dataCpl : Bool) : Watch := if addrCtl then { w with chainOut := dataCpl } else w

/-- One bus cycle seen by the debug logic: whether it triggers (a unit with ENABLE matches, or BREAKPT, rule R560), and the
state with the latches loaded and the levels of RANGEOUT0 and RANGEOUT1 in this cycle recorded: the two matches, whatever ENABLE
is (R557). With DBGEN LOW nothing happens (R554) and no level is recorded (log entry 51). The RANGE and CHAIN inputs of unit 1 are any value
(R557); those of unit 0 come from unit 1. -/
def State.observe (s : State) (x : BusAccess) : Bool × State :=
  if s.env.params.dbgen = false then (false, s)
  else
    let lanes := uncomparedLanes s.env.params.bigend x
    let s' := s.drawn.drawn
    let a1 := s.ice.w1.addrCtlMatch x
    let d1 := s.ice.w1.dataCplMatch x lanes s.freeBit s.drawn.freeBit s.env.pins.extern1
    let m1 := a1 && d1
    let a0 := s.ice.w0.addrCtlMatch x
    let d0 := s.ice.w0.dataCplMatch x lanes m1 s.ice.w1.chainOut s.env.pins.extern0
    let m0 := a0 && d0
    let ext := s.env.extBreak.any (fun r => r.covers x.addr.toNat x.size x.kind x.priv)
    ((m0 && s.ice.w0.enabled) || (m1 && s.ice.w1.enabled) || ext,
      { s' with
        ice := { s.ice with w0 := s.ice.w0.latched a0 d0, w1 := s.ice.w1.latched a1 d1 }
        ranges := s.ranges ++ [{ unit0 := m0, unit1 := m1 }] })

/-- All the given cycles in turn: whether one triggers. -/
def State.observeAll : List BusAccess → State → Bool × State
  | [], s => (false, s)
  | x :: xs, s =>
    let r := s.observe x
    let q := State.observeAll xs r.2
    (r.1 || q.1, q.2)

end Sys2Proof.Machine
end

