-- ==== Sys2Proof/Machine/Boundary.lean ====
section
/-! DEFINITION. One step of the core: the boundary procedure of rule R505 of 60_exceptions.md with the debug entries of rule
R563 of 61_debug.md, and reset, rule R601 of 70_reset_and_hazards.md. -/

namespace Sys2Proof.Machine

/-- IFEN, the interrupt enable of the debug logic (rules R48 of 10_state.md and R554 of 61_debug.md). -/
def State.ifen (s : State) : Bool := !s.env.params.dbgen || (!s.dbg.inDebug && !s.ice.control.getLsbD 2)

/-- DBGRQI, the OR of the pin and the synchronised control bit (rule R553 of 61_debug.md). -/
def State.dbgrqi (s : State) : Bool := s.env.pins.dbgrq || s.ice.dbgrqSync

/-- Whether an FIQ is taken at this boundary (rule R505 of 60_exceptions.md). -/
def State.fiqTaken (s : State) : Bool := !s.env.pins.nFiq && !s.cpsr.f && s.ifen

/-- Whether an IRQ is taken at this boundary, if no FIQ is (rule R505 of 60_exceptions.md). -/
def State.irqTaken (s : State) : Bool := !s.env.pins.nIrq && !s.cpsr.i && s.ifen

/-- Entering debug state, rule R556 of 61_debug.md: the pipeline is flushed and the program counter has counted `slots`
instructions on (rule R562; the first scanned instruction executes there); `bit33` is the reason reported, none for any value
(R575). A waiting coprocessor instruction is given up (R327 of 46_coprocessor.md). The hazard of rule R620 of 70_reset_and_hazards.md
is past, the pipeline being empty: DESIGN CHOICE, unsafe (log entry 48). What the data bus holds before the core drives or takes a word
is any value (log entry 34). -/
def State.enterDebug (s : State) (slots : Word) (bit33 : Option Bool) : State :=
  { s with
    pc := s.pc + slots * s.len
    usrLdm := false
    waiting := none
    dbg := { Dbg.reset with inDebug := true, bit33 := bit33 } }

/-- The debug entry at a boundary, rules R552, R553 and R563 of 61_debug.md: a watchpoint counts four slots, three where an
exception was entered too; a debug request three (rule R562). Bit 33 after a debug request is any value (R575). Where a
watchpoint and a debug request meet, the watchpoint is reported and counted: DESIGN CHOICE, unsafe (log entry 47). -/
def State.debugAtBoundary (s : State) : State :=
  if s.dbg.watchHit then s.enterDebug (if s.dbg.entered then 2 else 3) (some true) else s.enterDebug 2 none

/-- The data accesses that an instruction made, given the state in which it began. -/
def State.accessesSince (t s : State) : List BusAccess := t.bus.drop s.bus.length

/-- After an instruction: its data accesses are compared; a trigger is a watchpoint, taken at the next boundary (rule R552 of
61_debug.md). -/
def State.watched (t s : State) : State :=
  let r := State.observeAll (t.accessesSince s) t
  if r.1 then { r.2 with dbg := { r.2.dbg with watchHit := true } } else r.2

/-- The Prefetch Abort of a marked instruction, rule R506 of 60_exceptions.md. With `PabtCondFromBus` an ARM instruction may
fail the condition field the bus carried, any value (decision D19). -/
def State.prefetchAbort (s : State) : Result :=
  if s.env.params.pabtCondFromBus ∧ s.cpsr.t = false ∧ s.freeBit = true then s.drawn.begun.advance
  else .next (({ s with free := if s.env.params.pabtCondFromBus then s.free + 1 else s.free } : State).takeException .pabt)

/-- What a boundary comes to: the step is over without an instruction of the program, or an instruction executes in a state. -/
inductive Reached where
  | stops (r : Result)
  | executes (i : Instr) (s : State)

/-- The instruction at the program counter: fetched; aborted, breakpointed (rules R550 and R551 of 61_debug.md: an abort
disregards the breakpoint), refused where the bits are no instruction, or reached. -/
def State.fetchAndDecode (s : State) : Reached :=
  match s.fetch with
  | .refused r => .stops (.refused r)
  | .abort s1 => .stops (State.observeAll s1.bus s1).2.prefetchAbort
  | .ok w s1 =>
    let mark := State.observeAll s1.bus s1
    if mark.1 then .stops (.next (mark.2.enterDebug 3 (some false)))
    else
      match decode s.cpsr.t w with
      | .error e => .stops (.refused (.notAnInstruction e))
      | .ok i => .executes i mark.2

/-- The state in which a step of the core begins: its records of the last step are empty. -/
def State.fresh (s : State) : State := { s with bus := [], cop := [], ranges := [] }

/-- The boundary, rule R505 of 60_exceptions.md: in debug state the core is stopped (R556 of 61_debug.md), in an illegal mode it is
stuck until reset (R543); otherwise FIQ, IRQ, a debug entry, the coprocessor instruction that waits in the Execute stage, which is
not fetched again (R327 of 46_coprocessor.md), or the next instruction. -/
def State.reach (s : State) : Reached :=
  if s.dbg.inDebug then .stops (.next s)
  else if Mode.ofBits s.cpsr.m = none then .stops (.next s)
  else if s.fiqTaken then .stops (.next (s.takeException .fiq))
  else if s.irqTaken then .stops (.next (s.takeException .irq))
  else if s.env.params.dbgen && (s.dbg.watchHit || s.dbgrqi) then .stops (.next s.debugAtBoundary)
  else
    let s := ({ s with dbg := { s.dbg with entered := false } } : State)
    match s.waiting with
    | some i => .executes i s
    | none => s.fetchAndDecode

/-- An instruction executes and its data accesses are compared (rule R552 of 61_debug.md). -/
def State.runInstruction (s : State) (i : Instr) : Result :=
  match exec i s with
  | .next t => .next (t.watched s)
  | .fault f => .fault f
  | .refused r => .refused r

/-- One step of the core: the boundary, and the instruction it reaches. -/
def State.coreStep (s : State) : Result :=
  match s.fresh.reach with
  | .stops r => r
  | .executes i t => t.runInstruction i

/-- The n-th free word after the next one. -/
def State.freeWordAt (s : State) (n : Nat) : Word := Config.freeWord (s.free + n)

/-- The n-th free bit after the next one. -/
def State.freeBitAt (s : State) (n : Nat) : Bool := Config.freeBit (s.free + n)

/-- The fields of a status register word (rule R37 of 10_state.md). -/
def Psr.ofWord (w : Word) : Psr :=
  { n := w.getLsbD 31, z := w.getLsbD 30, c := w.getLsbD 29, v := w.getLsbD 28, reserved := w.extractLsb' 8 20,
    i := w.getLsbD 7, f := w.getLsbD 6, t := w.getLsbD 5, m := w.setWidth 5 }

/-- Registers of any value. -/
def State.freeRegs (s : State) : RegFile :=
  { r0 := s.freeWordAt 0, r1 := s.freeWordAt 1, r2 := s.freeWordAt 2, r3 := s.freeWordAt 3, r4 := s.freeWordAt 4,
    r5 := s.freeWordAt 5, r6 := s.freeWordAt 6, r7 := s.freeWordAt 7, r8 := s.freeWordAt 8, r9 := s.freeWordAt 9,
    r10 := s.freeWordAt 10, r11 := s.freeWordAt 11, r12 := s.freeWordAt 12, r8Fiq := s.freeWordAt 13,
    r9Fiq := s.freeWordAt 14, r10Fiq := s.freeWordAt 15, r11Fiq := s.freeWordAt 16, r12Fiq := s.freeWordAt 17,
    r13 := s.freeWordAt 18, r14 := s.freeWordAt 19, r13Fiq := s.freeWordAt 20, r14Fiq := s.freeWordAt 21,
    r13Irq := s.freeWordAt 22, r14Irq := s.freeWordAt 23, r13Svc := s.freeWordAt 24, r14Svc := s.freeWordAt 25,
    r13Abt := s.freeWordAt 26, r14Abt := s.freeWordAt 27, r13Und := s.freeWordAt 28, r14Und := s.freeWordAt 29 }

/-- A coprocessor after nRESET, from which it resets itself (rule R606 (h) of 70_reset_and_hazards.md). -/
def CopPort.reset (p : CopPort) : CopPort := { p with state := p.atReset.state, bank := p.atReset.bank, waits := p.atReset.waits }

/-- A reset of a running machine, rule R601 of 70_reset_and_hazards.md: Supervisor mode, ARM state, I and F set, the next
instruction at address 0; every general register, every SPSR, the flags and the reserved bits any value (decision D9, log
entry 4). Memory, the TAP, the EmbeddedICE registers and the DCC are left (rule R603); debug state ends (R556 of
61_debug.md); the coprocessors reset themselves (R606 (h)). -/
def State.warmReset (s : State) : State :=
  { s with
    regs := s.freeRegs
    pc := 0
    cpsr := { n := s.freeBitAt 0, z := s.freeBitAt 1, c := s.freeBitAt 2, v := s.freeBitAt 3,
              reserved := (s.freeWordAt 30).setWidth 20, i := true, f := true, t := false, m := Mode.svc.bits }
    spsr := { fiq := Psr.ofWord (s.freeWordAt 31), irq := Psr.ofWord (s.freeWordAt 32), svc := Psr.ofWord (s.freeWordAt 33),
              abt := Psr.ofWord (s.freeWordAt 34), und := Psr.ofWord (s.freeWordAt 35) }
    psrRead := .none
    dbg := Dbg.reset
    usrLdm := false
    waiting := none
    fetchPriv := true
    nextFetchPriv := true
    env := { s.env with coprocs := s.env.coprocs.map CopPort.reset }
    free := s.free + 36 }

/-- One recorded data access made: a write that reached storage, a word taken from a device, and the record. -/
def replay (s : State) (x : BusAccess) : State :=
  let a := x.size.align x.addr
  let s := s.logged x
  if x.aborted then s
  else
    match x.kind with
    | .write => { s with mem := s.stored a x.size x.data }
    | .read => if s.isDevice a then { s with env := { s.env with devIn := s.env.devIn.tail } } else s
    | .fetch => s

/-- The machine where reset abandons the next instruction after its first `k` data accesses (decision D21). The accesses are those
the instruction makes; that it might be refused after them (code window, top of the address space) does not matter, as in debug
state. What a coprocessor was to do is not done (R327 of 46_coprocessor.md: only once the instruction has been executed). -/
def State.abandoned (s : State) (k : Nat) : State :=
  match s.fresh.reach with
  | .stops _ => s.fresh
  | .executes i t =>
    match exec i { t with dbg := { t.dbg with inDebug := true } } with
    | .next u =>
      let made := (u.accessesSince t).take k
      (State.observeAll made { made.foldl replay t with free := u.free }).2
    | .fault _ => t
    | .refused _ => t

/-- The reset event: nRESET LOW for at least two cycles (rule R600), at a boundary or after `k` data accesses of an
instruction (rule R601). It is honoured in debug state too (R556 (h) of 61_debug.md). -/
def State.resetEvent (s : State) (cycles : Nat) (after : Option Nat) : Result :=
  if cycles < 2 then .refused .resetPulse
  else
    match after with
    | none => .next s.fresh.warmReset
    | some k => .next (s.abandoned k).warmReset

/-- nTRST, rule R61 of 10_state.md: the TAP and the CHAINOUT latches. -/
def State.testReset (s : State) : State :=
  { s with
    tap := Tap.reset
    ice := { s.ice with w0 := { s.ice.w0 with chainOut := false }, w1 := { s.ice.w1 with chainOut := false } } }

end Sys2Proof.Machine
end

