-- ==== Sys2Proof/WellFormed.lean ====
section
/-! DEFINITION. Which instructions are well formed: the condition is not 1111 (rule R114) and no operand restriction is
broken (Sys2Proof/Machine/Restrictions.lean). -/

namespace Sys2Proof

/-- The condition field of an ARM instruction; Thumb instructions have none but in format T16, whose condition is the
constructor (rule R112). -/
def Instr.cond? : Instr → Option Cond
  | .bx cond _ => some cond
  | .mul cond _ _ _ _ _ => some cond
  | .mla cond _ _ _ _ _ => some cond
  | .umull cond _ _ _ _ _ => some cond
  | .umlal cond _ _ _ _ _ => some cond
  | .smull cond _ _ _ _ _ => some cond
  | .smlal cond _ _ _ _ _ => some cond
  | .swp cond _ _ _ => some cond
  | .swpb cond _ _ _ => some cond
  | .strhReg cond _ _ _ _ _ _ => some cond
  | .strhImm cond _ _ _ _ _ _ => some cond
  | .ldrhReg cond _ _ _ _ _ _ => some cond
  | .ldrhImm cond _ _ _ _ _ _ => some cond
  | .ldrsbReg cond _ _ _ _ _ _ => some cond
  | .ldrsbImm cond _ _ _ _ _ _ => some cond
  | .ldrshReg cond _ _ _ _ _ _ => some cond
  | .ldrshImm cond _ _ _ _ _ _ => some cond
  | .mrs cond _ _ => some cond
  | .msrReg cond _ _ _ => some cond
  | .msrImm cond _ _ _ _ => some cond
  | .andImm cond _ _ _ _ _ => some cond
  | .andShi cond _ _ _ _ _ _ => some cond
  | .andShr cond _ _ _ _ _ _ => some cond
  | .eorImm cond _ _ _ _ _ => some cond
  | .eorShi cond _ _ _ _ _ _ => some cond
  | .eorShr cond _ _ _ _ _ _ => some cond
  | .subImm cond _ _ _ _ _ => some cond
  | .subShi cond _ _ _ _ _ _ => some cond
  | .subShr cond _ _ _ _ _ _ => some cond
  | .rsbImm cond _ _ _ _ _ => some cond
  | .rsbShi cond _ _ _ _ _ _ => some cond
  | .rsbShr cond _ _ _ _ _ _ => some cond
  | .addImm cond _ _ _ _ _ => some cond
  | .addShi cond _ _ _ _ _ _ => some cond
  | .addShr cond _ _ _ _ _ _ => some cond
  | .adcImm cond _ _ _ _ _ => some cond
  | .adcShi cond _ _ _ _ _ _ => some cond
  | .adcShr cond _ _ _ _ _ _ => some cond
  | .sbcImm cond _ _ _ _ _ => some cond
  | .sbcShi cond _ _ _ _ _ _ => some cond
  | .sbcShr cond _ _ _ _ _ _ => some cond
  | .rscImm cond _ _ _ _ _ => some cond
  | .rscShi cond _ _ _ _ _ _ => some cond
  | .rscShr cond _ _ _ _ _ _ => some cond
  | .tstImm cond _ _ _ _ => some cond
  | .tstShi cond _ _ _ _ _ => some cond
  | .tstShr cond _ _ _ _ _ => some cond
  | .teqImm cond _ _ _ _ => some cond
  | .teqShi cond _ _ _ _ _ => some cond
  | .teqShr cond _ _ _ _ _ => some cond
  | .cmpImm cond _ _ _ _ => some cond
  | .cmpShi cond _ _ _ _ _ => some cond
  | .cmpShr cond _ _ _ _ _ => some cond
  | .cmnImm cond _ _ _ _ => some cond
  | .cmnShi cond _ _ _ _ _ => some cond
  | .cmnShr cond _ _ _ _ _ => some cond
  | .orrImm cond _ _ _ _ _ => some cond
  | .orrShi cond _ _ _ _ _ _ => some cond
  | .orrShr cond _ _ _ _ _ _ => some cond
  | .movImm cond _ _ _ _ _ => some cond
  | .movShi cond _ _ _ _ _ _ => some cond
  | .movShr cond _ _ _ _ _ _ => some cond
  | .bicImm cond _ _ _ _ _ => some cond
  | .bicShi cond _ _ _ _ _ _ => some cond
  | .bicShr cond _ _ _ _ _ _ => some cond
  | .mvnImm cond _ _ _ _ _ => some cond
  | .mvnShi cond _ _ _ _ _ _ => some cond
  | .mvnShr cond _ _ _ _ _ _ => some cond
  | .ldrImm cond _ _ _ _ _ => some cond
  | .ldrImmPost cond _ _ _ _ => some cond
  | .ldrReg cond _ _ _ _ _ _ _ => some cond
  | .ldrRegPost cond _ _ _ _ _ _ => some cond
  | .ldrbImm cond _ _ _ _ _ => some cond
  | .ldrbImmPost cond _ _ _ _ => some cond
  | .ldrbReg cond _ _ _ _ _ _ _ => some cond
  | .ldrbRegPost cond _ _ _ _ _ _ => some cond
  | .strImm cond _ _ _ _ _ => some cond
  | .strImmPost cond _ _ _ _ => some cond
  | .strReg cond _ _ _ _ _ _ _ => some cond
  | .strRegPost cond _ _ _ _ _ _ => some cond
  | .strbImm cond _ _ _ _ _ => some cond
  | .strbImmPost cond _ _ _ _ => some cond
  | .strbReg cond _ _ _ _ _ _ _ => some cond
  | .strbRegPost cond _ _ _ _ _ _ => some cond
  | .ldrtImm cond _ _ _ _ => some cond
  | .ldrtReg cond _ _ _ _ _ _ => some cond
  | .ldrbtImm cond _ _ _ _ => some cond
  | .ldrbtReg cond _ _ _ _ _ _ => some cond
  | .strtImm cond _ _ _ _ => some cond
  | .strtReg cond _ _ _ _ _ _ => some cond
  | .strbtImm cond _ _ _ _ => some cond
  | .strbtReg cond _ _ _ _ _ _ => some cond
  | .undefined cond _ _ => some cond
  | .ldmia cond _ _ _ _ => some cond
  | .ldmib cond _ _ _ _ => some cond
  | .ldmda cond _ _ _ _ => some cond
  | .ldmdb cond _ _ _ _ => some cond
  | .stmia cond _ _ _ _ => some cond
  | .stmib cond _ _ _ _ => some cond
  | .stmda cond _ _ _ _ => some cond
  | .stmdb cond _ _ _ _ => some cond
  | .b cond _ => some cond
  | .bl cond _ => some cond
  | .ldc cond _ _ _ _ _ _ _ _ => some cond
  | .stc cond _ _ _ _ _ _ _ _ => some cond
  | .cdp cond _ _ _ _ _ _ => some cond
  | .mcr cond _ _ _ _ _ _ => some cond
  | .mrc cond _ _ _ _ _ _ => some cond
  | .swi cond _ => some cond
  | .tLslImm _ _ _ => none
  | .tLsrImm _ _ _ => none
  | .tAsrImm _ _ _ => none
  | .tAddReg _ _ _ => none
  | .tSubReg _ _ _ => none
  | .tAddImm3 _ _ _ => none
  | .tSubImm3 _ _ _ => none
  | .tMovImm _ _ => none
  | .tCmpImm _ _ => none
  | .tAddImm8 _ _ => none
  | .tSubImm8 _ _ => none
  | .tAnd _ _ => none
  | .tEor _ _ => none
  | .tLslReg _ _ => none
  | .tLsrReg _ _ => none
  | .tAsrReg _ _ => none
  | .tAdc _ _ => none
  | .tSbc _ _ => none
  | .tRorReg _ _ => none
  | .tTst _ _ => none
  | .tNeg _ _ => none
  | .tCmpReg _ _ => none
  | .tCmn _ _ => none
  | .tOrr _ _ => none
  | .tMul _ _ => none
  | .tBic _ _ => none
  | .tMvn _ _ => none
  | .tAddHi _ _ => none
  | .tCmpHi _ _ => none
  | .tMovHi _ _ => none
  | .tBx _ => none
  | .tLdrPc _ _ => none
  | .tStrReg _ _ _ => none
  | .tStrhReg _ _ _ => none
  | .tStrbReg _ _ _ => none
  | .tLdrsbReg _ _ _ => none
  | .tLdrReg _ _ _ => none
  | .tLdrhReg _ _ _ => none
  | .tLdrbReg _ _ _ => none
  | .tLdrshReg _ _ _ => none
  | .tStrImm _ _ _ => none
  | .tLdrImm _ _ _ => none
  | .tStrbImm _ _ _ => none
  | .tLdrbImm _ _ _ => none
  | .tStrhImm _ _ _ => none
  | .tLdrhImm _ _ _ => none
  | .tStrSp _ _ => none
  | .tLdrSp _ _ => none
  | .tAddPc _ _ => none
  | .tAddSp _ _ => none
  | .tIncSp _ => none
  | .tDecSp _ => none
  | .tPush _ _ => none
  | .tPop _ _ => none
  | .tStmia _ _ => none
  | .tLdmia _ _ => none
  | .tBeq _ => none
  | .tBne _ => none
  | .tBcs _ => none
  | .tBcc _ => none
  | .tBmi _ => none
  | .tBpl _ => none
  | .tBvs _ => none
  | .tBvc _ => none
  | .tBhi _ => none
  | .tBls _ => none
  | .tBge _ => none
  | .tBlt _ => none
  | .tBgt _ => none
  | .tBle _ => none
  | .tUndefined _ => none
  | .tSwi _ => none
  | .tB _ => none
  | .tBlHi _ => none
  | .tBlLo _ => none

/-- Why an instruction is not well formed. -/
inductive Violation where
  /-- Condition field 1111 (rule R114, decision D10). -/
  | condNever
  /-- An operand combination of decision D18. -/
  | operands (r : Restriction)
  deriving DecidableEq, Repr

/-- The first reason for which the instruction is not well formed. -/
def Instr.violation (i : Instr) : Option Violation :=
  if i.cond? = some .nv then some .condNever
  else i.restriction.map .operands

/-- The instruction is one the spec lets a program execute. -/
def WellFormed (i : Instr) : Prop := i.violation = none

end Sys2Proof
end

