-- ==== Sys2Proof/Machine/Debug.lean ====
section
/-! DEFINITION. The core in debug state: the clock that scan chain 1 gives it, and RESTART, rules R561, R562 and R564 of
61_debug.md. -/

namespace Sys2Proof.Machine

/-- What an instruction is for the debugger, rule R561 (e): a data processing instruction (with an internal cycle for a shift by
register, rule R642 of 70_reset_and_hazards.md; writing the PC or not), a load of `words` words, a store, a branch under a
condition, or an instruction that may not be scanned in. -/
inductive DebugKind where
  | data (shiftByReg toPc : Bool)
  | load (words : Nat) (toPc : Bool)
  | store
  | branch (c : Cond)
  | denied
  deriving DecidableEq, Repr

/-- The kind of every instruction, rule R561 (e) with the branch of rule R564 and the BX of rule R561 (b). -/
def Instr.debugKind : Instr → DebugKind
  | .bx cond _ => .branch cond
  | .mul _ _ _ _ _ _ => .denied
  | .mla _ _ _ _ _ _ => .denied
  | .umull _ _ _ _ _ _ => .denied
  | .umlal _ _ _ _ _ _ => .denied
  | .smull _ _ _ _ _ _ => .denied
  | .smlal _ _ _ _ _ _ => .denied
  | .swp _ _ _ _ => .denied
  | .swpb _ _ _ _ => .denied
  | .strhReg _ _ _ _ _ _ _ => .store
  | .strhImm _ _ _ _ _ _ _ => .store
  | .ldrhReg _ _ _ _ _ rd _ => .load 1 (isPc rd)
  | .ldrhImm _ _ _ _ _ rd _ => .load 1 (isPc rd)
  | .ldrsbReg _ _ _ _ _ rd _ => .load 1 (isPc rd)
  | .ldrsbImm _ _ _ _ _ rd _ => .load 1 (isPc rd)
  | .ldrshReg _ _ _ _ _ rd _ => .load 1 (isPc rd)
  | .ldrshImm _ _ _ _ _ rd _ => .load 1 (isPc rd)
  | .mrs _ _ _ => .data false false
  | .msrReg _ _ _ _ => .data false false
  | .msrImm _ _ _ _ _ => .data false false
  | .andImm _ _ _ rd _ _ => .data false (isPc rd)
  | .andShi _ _ _ rd _ _ _ => .data false (isPc rd)
  | .andShr _ _ _ rd _ _ _ => .data true (isPc rd)
  | .eorImm _ _ _ rd _ _ => .data false (isPc rd)
  | .eorShi _ _ _ rd _ _ _ => .data false (isPc rd)
  | .eorShr _ _ _ rd _ _ _ => .data true (isPc rd)
  | .subImm _ _ _ rd _ _ => .data false (isPc rd)
  | .subShi _ _ _ rd _ _ _ => .data false (isPc rd)
  | .subShr _ _ _ rd _ _ _ => .data true (isPc rd)
  | .rsbImm _ _ _ rd _ _ => .data false (isPc rd)
  | .rsbShi _ _ _ rd _ _ _ => .data false (isPc rd)
  | .rsbShr _ _ _ rd _ _ _ => .data true (isPc rd)
  | .addImm _ _ _ rd _ _ => .data false (isPc rd)
  | .addShi _ _ _ rd _ _ _ => .data false (isPc rd)
  | .addShr _ _ _ rd _ _ _ => .data true (isPc rd)
  | .adcImm _ _ _ rd _ _ => .data false (isPc rd)
  | .adcShi _ _ _ rd _ _ _ => .data false (isPc rd)
  | .adcShr _ _ _ rd _ _ _ => .data true (isPc rd)
  | .sbcImm _ _ _ rd _ _ => .data false (isPc rd)
  | .sbcShi _ _ _ rd _ _ _ => .data false (isPc rd)
  | .sbcShr _ _ _ rd _ _ _ => .data true (isPc rd)
  | .rscImm _ _ _ rd _ _ => .data false (isPc rd)
  | .rscShi _ _ _ rd _ _ _ => .data false (isPc rd)
  | .rscShr _ _ _ rd _ _ _ => .data true (isPc rd)
  | .tstImm _ _ _ _ _ => .data false false
  | .tstShi _ _ _ _ _ _ => .data false false
  | .tstShr _ _ _ _ _ _ => .data true false
  | .teqImm _ _ _ _ _ => .data false false
  | .teqShi _ _ _ _ _ _ => .data false false
  | .teqShr _ _ _ _ _ _ => .data true false
  | .cmpImm _ _ _ _ _ => .data false false
  | .cmpShi _ _ _ _ _ _ => .data false false
  | .cmpShr _ _ _ _ _ _ => .data true false
  | .cmnImm _ _ _ _ _ => .data false false
  | .cmnShi _ _ _ _ _ _ => .data false false
  | .cmnShr _ _ _ _ _ _ => .data true false
  | .orrImm _ _ _ rd _ _ => .data false (isPc rd)
  | .orrShi _ _ _ rd _ _ _ => .data false (isPc rd)
  | .orrShr _ _ _ rd _ _ _ => .data true (isPc rd)
  | .movImm _ _ _ rd _ _ => .data false (isPc rd)
  | .movShi _ _ _ rd _ _ _ => .data false (isPc rd)
  | .movShr _ _ _ rd _ _ _ => .data true (isPc rd)
  | .bicImm _ _ _ rd _ _ => .data false (isPc rd)
  | .bicShi _ _ _ rd _ _ _ => .data false (isPc rd)
  | .bicShr _ _ _ rd _ _ _ => .data true (isPc rd)
  | .mvnImm _ _ _ rd _ _ => .data false (isPc rd)
  | .mvnShi _ _ _ rd _ _ _ => .data false (isPc rd)
  | .mvnShr _ _ _ rd _ _ _ => .data true (isPc rd)
  | .ldrImm _ _ _ _ rd _ => .load 1 (isPc rd)
  | .ldrImmPost _ _ _ rd _ => .load 1 (isPc rd)
  | .ldrReg _ _ _ _ rd _ _ _ => .load 1 (isPc rd)
  | .ldrRegPost _ _ _ rd _ _ _ => .load 1 (isPc rd)
  | .ldrbImm _ _ _ _ rd _ => .load 1 (isPc rd)
  | .ldrbImmPost _ _ _ rd _ => .load 1 (isPc rd)
  | .ldrbReg _ _ _ _ rd _ _ _ => .load 1 (isPc rd)
  | .ldrbRegPost _ _ _ rd _ _ _ => .load 1 (isPc rd)
  | .strImm _ _ _ _ _ _ => .store
  | .strImmPost _ _ _ _ _ => .store
  | .strReg _ _ _ _ _ _ _ _ => .store
  | .strRegPost _ _ _ _ _ _ _ => .store
  | .strbImm _ _ _ _ _ _ => .store
  | .strbImmPost _ _ _ _ _ => .store
  | .strbReg _ _ _ _ _ _ _ _ => .store
  | .strbRegPost _ _ _ _ _ _ _ => .store
  | .ldrtImm _ _ _ rd _ => .load 1 (isPc rd)
  | .ldrtReg _ _ _ rd _ _ _ => .load 1 (isPc rd)
  | .ldrbtImm _ _ _ rd _ => .load 1 (isPc rd)
  | .ldrbtReg _ _ _ rd _ _ _ => .load 1 (isPc rd)
  | .strtImm _ _ _ _ _ => .store
  | .strtReg _ _ _ _ _ _ _ => .store
  | .strbtImm _ _ _ _ _ => .store
  | .strbtReg _ _ _ _ _ _ _ => .store
  | .undefined _ _ _ => .denied
  | .ldmia _ _ _ _ list => .load (listed list).length (inList list 15#4)
  | .ldmib _ _ _ _ list => .load (listed list).length (inList list 15#4)
  | .ldmda _ _ _ _ list => .load (listed list).length (inList list 15#4)
  | .ldmdb _ _ _ _ list => .load (listed list).length (inList list 15#4)
  | .stmia _ _ _ _ _ => .store
  | .stmib _ _ _ _ _ => .store
  | .stmda _ _ _ _ _ => .store
  | .stmdb _ _ _ _ _ => .store
  | .b cond _ => .branch cond
  | .bl _ _ => .denied
  | .ldc _ _ _ _ _ _ _ _ _ => .denied
  | .stc _ _ _ _ _ _ _ _ _ => .denied
  | .cdp _ _ _ _ _ _ _ => .denied
  | .mcr _ _ _ _ _ _ _ => .denied
  | .mrc _ _ _ _ _ _ _ => .denied
  | .swi _ _ => .denied
  | .tLslImm _ _ _ => .data false false
  | .tLsrImm _ _ _ => .data false false
  | .tAsrImm _ _ _ => .data false false
  | .tAddReg _ _ _ => .data false false
  | .tSubReg _ _ _ => .data false false
  | .tAddImm3 _ _ _ => .data false false
  | .tSubImm3 _ _ _ => .data false false
  | .tMovImm _ _ => .data false false
  | .tCmpImm _ _ => .data false false
  | .tAddImm8 _ _ => .data false false
  | .tSubImm8 _ _ => .data false false
  | .tAnd _ _ => .data false false
  | .tEor _ _ => .data false false
  | .tLslReg _ _ => .data true false
  | .tLsrReg _ _ => .data true false
  | .tAsrReg _ _ => .data true false
  | .tAdc _ _ => .data false false
  | .tSbc _ _ => .data false false
  | .tRorReg _ _ => .data true false
  | .tTst _ _ => .data false false
  | .tNeg _ _ => .data false false
  | .tCmpReg _ _ => .data false false
  | .tCmn _ _ => .data false false
  | .tOrr _ _ => .data false false
  | .tMul _ _ => .denied
  | .tBic _ _ => .data false false
  | .tMvn _ _ => .data false false
  | .tAddHi rd _ => .data false (isPc rd)
  | .tCmpHi _ _ => .data false false
  | .tMovHi rd _ => .data false (isPc rd)
  | .tBx _ => .branch .al
  | .tLdrPc _ _ => .load 1 false
  | .tStrReg _ _ _ => .store
  | .tStrhReg _ _ _ => .store
  | .tStrbReg _ _ _ => .store
  | .tLdrsbReg _ _ _ => .load 1 false
  | .tLdrReg _ _ _ => .load 1 false
  | .tLdrhReg _ _ _ => .load 1 false
  | .tLdrbReg _ _ _ => .load 1 false
  | .tLdrshReg _ _ _ => .load 1 false
  | .tStrImm _ _ _ => .store
  | .tLdrImm _ _ _ => .load 1 false
  | .tStrbImm _ _ _ => .store
  | .tLdrbImm _ _ _ => .load 1 false
  | .tStrhImm _ _ _ => .store
  | .tLdrhImm _ _ _ => .load 1 false
  | .tStrSp _ _ => .store
  | .tLdrSp _ _ => .load 1 false
  | .tAddPc _ _ => .data false false
  | .tAddSp _ _ => .data false false
  | .tIncSp _ => .data false false
  | .tDecSp _ => .data false false
  | .tPush _ _ => .store
  | .tPop r list => .load (listed (thumbList list (if r then 0x8000#16 else 0))).length r
  | .tStmia _ _ => .store
  | .tLdmia _ list => .load (listed (list.setWidth 16)).length false
  | .tBeq _ => .branch .eq
  | .tBne _ => .branch .ne
  | .tBcs _ => .branch .cs
  | .tBcc _ => .branch .cc
  | .tBmi _ => .branch .mi
  | .tBpl _ => .branch .pl
  | .tBvs _ => .branch .vs
  | .tBvc _ => .branch .vc
  | .tBhi _ => .branch .hi
  | .tBls _ => .branch .ls
  | .tBge _ => .branch .ge
  | .tBlt _ => .branch .lt
  | .tBgt _ => .branch .gt
  | .tBle _ => .branch .le
  | .tUndefined _ => .denied
  | .tSwi _ => .denied
  | .tB _ => .branch .al
  | .tBlHi _ => .denied
  | .tBlLo _ => .denied

/-- Whether an instruction is a load or a store: what rule R561 (g) lets run at system speed. -/
def DebugKind.isTransfer : DebugKind → Bool
  | .load _ _ => true
  | .store => true
  | .data _ _ => false
  | .branch _ => false
  | .denied => false

/-- Whether an instruction whose condition passes empties the pipeline, given the state it executes in. -/
def DebugKind.flushes (k : DebugKind) (p : Psr) : Bool :=
  match k with
  | .data _ toPc => toPc
  | .load _ toPc => toPc
  | .store => false
  | .branch c => conditionPassed p c
  | .denied => false

/-- The words a load takes from the debugger. -/
def DebugKind.words : DebugKind → Nat
  | .load n _ => n
  | .data _ _ => 0
  | .store => 0
  | .branch _ => 0
  | .denied => 0

/-- Whether an instruction takes an internal cycle after its transfers (rule R642 of 70_reset_and_hazards.md). -/
def DebugKind.internal : DebugKind → Bool
  | .data b _ => b
  | .load _ _ => true
  | .store => false
  | .branch _ => false
  | .denied => false

/-- The instruction in a scanned word: in Thumb state the half of the bus that the core reads (rule R561 (a)). -/
def State.scanned (s : State) (w : Word) : Except DecodeError Instr :=
  decode s.cpsr.t (if s.cpsr.t then lane s.env.params.bigend .half s.pc w else w)

/-- Whether the condition of an instruction passes; a Thumb instruction has none (rules R112 and R113 of 30_encoding.md). -/
def State.passes (s : State) (i : Instr) : Bool := conditionPassed s.cpsr ((Instr.cond? i).getD .al)

/-- Executing the instruction at the head of the scanned pipeline at debug speed, rule R561 (f): its loads take the given
words, the words it stores are driven in the following clocks. The feed makes each transfer one that no abort can reach: in debug state
the core ignores aborts (rules R102 of 20_memory.md and R556 (c) of 61_debug.md). -/
def State.debugExec (s : State) (i : Instr) (ws : List Word) : Result :=
  let k := Instr.debugKind i
  match exec i { s with dbg := { s.dbg with feed := some ws, captured := [] } } with
  | .fault f => .fault f
  | .refused r => .refused r
  | .next t =>
    let ran := s.passes i
    .next
      { t with
        dbg :=
          { s.dbg with
            pipe := if ran && k.flushes s.cpsr then [] else s.dbg.pipe.tail
            phase :=
              if t.dbg.captured ≠ [] then .storing t.dbg.captured
              else if ran && k.internal then .internal
              else .ready } }

/-- The clock in which the instruction at the head begins: a load waits for its words, every other one executes. A Thumb or ARM
word that is no instruction, or one that rule R561 (e) does not list, is refused. -/
def State.debugIssue (s : State) (slot : DbgSlot) : Result :=
  match s.scanned slot.word with
  | .error e => .refused (.notAnInstruction e)
  | .ok i =>
    let k := Instr.debugKind i
    if k = .denied then .refused .debugInstruction
    else if k.words = 0 ∨ s.passes i = false then s.debugExec i []
    else .next { s with dbg := { s.dbg with phase := .loading k.words [] } }

/-- The state after a scanned word has gone down the pipeline. -/
def State.scannedIn (s : State) (w : DbgSlot) : State :=
  { s with dbg := { s.dbg with pipe := s.dbg.pipe ++ [w], bus := some w.word } }

/-- One core clock in debug state, rule R561: the core takes the scanned word from its data bus as an instruction or as load
data, or drives a word that it stores, and executes the instruction scanned in two clocks before. In an illegal mode nothing
executes (rule R543 of 60_exceptions.md). -/
def State.debugClock (s : State) (w : DbgSlot) : Result :=
  if Mode.ofBits s.cpsr.m = none then .next s
  else
    match s.dbg.phase with
    | .storing [] => .next { s with dbg := { s.dbg with phase := .ready } }
    | .storing (d :: rest) =>
      .next { s with dbg := { s.dbg with bus := some d, phase := if rest = [] then .ready else .storing rest } }
    | .internal => .next { s with dbg := { s.dbg with phase := .ready } }
    | .loading need got =>
      let got := got ++ [w.word]
      let s := ({ s with dbg := { s.dbg with bus := some w.word } } : State)
      if got.length < need then .next { s with dbg := { s.dbg with phase := .loading need got } }
      else
        match s.dbg.pipe with
        | [] => .next { s with dbg := { s.dbg with phase := .ready } }
        | slot :: _ =>
          match s.scanned slot.word with
          | .error e => .refused (.notAnInstruction e)
          | .ok i => s.debugExec i got
    | .ready =>
      match s.dbg.pipe with
      | slot :: _ :: _ => (s.scannedIn w).debugIssue slot
      | _ => .next (s.scannedIn w)

/-- The return to debug state after a transfer at system speed, rules R561 (g) and R562: the program counter has moved three
slots, bit 33 reads HIGH; after an abort, which left the core in Abort mode, r14_abt and the program counter hold any value (log
entry 35). A watchpoint that the transfers raised is dropped with this return, which the spec leaves open: DESIGN CHOICE, unsafe (log
entry 55). -/
def State.systemSpeedEnd (t : State) : State :=
  let u := t.enterDebug 2 (some true)
  if t.dbg.entered then
    { u with
      pc := u.freeWordAt 0 &&& 0xFFFFFFFC#32
      regs := u.regs.set .r14Abt (u.freeWordAt 1)
      free := u.free + 2 }
  else u

/-- Leaving debug state, rule R564: the core goes on at the program counter; a watchpoint that the instructions after RESTART
raised is taken at the first boundary then, which the spec leaves open: DESIGN CHOICE, unsafe (log entry 55). -/
def State.leaveDebug (t : State) : State := { t with dbg := { Dbg.reset with watchHit := t.dbg.watchHit } }

/-- The instructions in the pipeline after RESTART, with the core on the bus of the system (rules R561 (g) and R564). Each
executes as it does outside debug state: its accesses go to the same memory (rule R102 of 20_memory.md), and an abort during one is
taken, as rule R561 (g) says; that rule R102 lets only an access made in debug state, at debug speed, ignore aborts is DEDUCED (log
entry 35). An abort, or a load or store as the last one where bit 33 marks an instruction (`marked`), brings the core back to debug
state; otherwise it leaves debug state after the last one, or after one that empties the pipeline. No
interrupt is taken between them, which the spec leaves open: DESIGN CHOICE, unsafe (log entry 49); no reset falls between their
accesses: DESIGN CHOICE, unsafe (log entry 54); and neither a watchpoint match of their accesses nor DBGRQI ends the run between them,
which the spec leaves open too: DESIGN CHOICE, unsafe (log entry 55). An instruction that rule R561 (e) does not list is refused. In an illegal mode nothing
executes (rule R543 of 60_exceptions.md). -/
def State.restartPipe (marked : Bool) : List DbgSlot → State → Result
  | [], s => .next s.leaveDebug
  | p :: rest, s =>
    if Mode.ofBits s.cpsr.m = none then .next s
    else
      match s.scanned p.word with
      | .error e => .refused (.notAnInstruction e)
      | .ok i =>
        let k := Instr.debugKind i
        if k = .denied then .refused .debugInstruction
        else
          match exec i s with
          | .fault f => .fault f
          | .refused r => .refused r
          | .next t =>
            let t := t.watched s
            let last := rest.isEmpty || (s.passes i && k.flushes s.cpsr)
            if t.dbg.entered || (last && marked && k.isTransfer) then .next t.systemSpeedEnd
            else if last then .next t.leaveDebug
            else State.restartPipe marked rest t

/-- RESTART taking effect on entry to RUN-TEST-IDLE, rules R561 (g) and R564: the core resynchronises to MCLK, a transfer in
progress at debug speed ends, and the instructions in the pipeline execute. What it does where no instruction is marked, or a
marked one is itself a transfer, is log entry 32 (DESIGN CHOICE, unsafe). -/
def State.restart (s : State) : Result :=
  State.restartPipe (s.dbg.pipe.any DbgSlot.mark) s.dbg.pipe
    { s with dbg := { s.dbg with entered := false, watchHit := false, phase := .ready, feed := none, captured := [] } }

end Sys2Proof.Machine
end

