-- ==== Sys2Proof/Machine/Tap.lean ====
section
/-! DEFINITION. The test access port: the TAP controller, the scan chains and the EmbeddedICE registers behind scan chain 2,
rules R47 to R52 of 10_state.md and R559, R570 to R578 of 61_debug.md. -/

namespace Sys2Proof.Machine

/-- The sixteen-state controller, rule R570: the next state for a value of TMS. -/
def TapState.next : TapState → Bool → TapState
  | .testLogicReset, true => .testLogicReset
  | .testLogicReset, false => .runTestIdle
  | .runTestIdle, true => .selectDr
  | .runTestIdle, false => .runTestIdle
  | .selectDr, true => .selectIr
  | .selectDr, false => .captureDr
  | .captureDr, true => .exit1Dr
  | .captureDr, false => .shiftDr
  | .shiftDr, true => .exit1Dr
  | .shiftDr, false => .shiftDr
  | .exit1Dr, true => .updateDr
  | .exit1Dr, false => .pauseDr
  | .pauseDr, true => .exit2Dr
  | .pauseDr, false => .pauseDr
  | .exit2Dr, true => .updateDr
  | .exit2Dr, false => .shiftDr
  | .updateDr, true => .selectDr
  | .updateDr, false => .runTestIdle
  | .selectIr, true => .testLogicReset
  | .selectIr, false => .captureIr
  | .captureIr, true => .exit1Ir
  | .captureIr, false => .shiftIr
  | .shiftIr, true => .exit1Ir
  | .shiftIr, false => .shiftIr
  | .exit1Ir, true => .updateIr
  | .exit1Ir, false => .pauseIr
  | .pauseIr, true => .exit2Ir
  | .pauseIr, false => .pauseIr
  | .exit2Ir, true => .updateIr
  | .exit2Ir, false => .shiftIr
  | .updateIr, true => .selectDr
  | .updateIr, false => .runTestIdle

/-- The data register between TDI and TDO, rules R572 and R573. -/
inductive DataReg where
  | select | id | chain0 | chain1 | chain2 | external | bypass
  deriving DecidableEq, Repr

/-- INTEST is the instruction (rule R572). -/
def Tap.intest (t : Tap) : Bool := decide (t.ir = 0b1100#4)

/-- EXTEST is the instruction (rule R572). -/
def Tap.extest (t : Tap) : Bool := decide (t.ir = 0b0000#4)

/-- The scan chain of the number in the scan path select register, rule R573: 3 and the unassigned numbers connect the external
chain. The reserved numbers 4 and 8 are never selected (S20). -/
def Tap.chain (t : Tap) : DataReg :=
  if t.select = 0 then .chain0 else if t.select = 1 then .chain1 else if t.select = 2 then .chain2 else .external

/-- The data register that an instruction selects, rule R572; codes not listed act as BYPASS. -/
def Tap.dataReg (t : Tap) : DataReg :=
  if t.ir = 0b0010#4 then .select
  else if t.ir = 0b1110#4 then .id
  else if t.intest || t.extest then t.chain
  else .bypass

/-- Shifting towards bit 0: TDI enters at the top (rules R52, R571, R573 and R576). -/
def shiftRight {n : Nat} (v : BitVec n) (tdi : Bool) : BitVec n := (v >>> 1) ||| (BitVec.ofBool tdi).setWidth n <<< (n - 1)

/-! ## EmbeddedICE registers -/

/-- One watchpoint register, by the low three bits of its address (rule R47 of 10_state.md). -/
def Watch.read (w : Watch) (a : BitVec 3) : Option Word :=
  if a = 0 then some w.addrValue
  else if a = 1 then some w.addrMask
  else if a = 2 then some w.dataValue
  else if a = 3 then some w.dataMask
  else if a = 4 then some (w.ctlValue.setWidth 32)
  else if a = 5 then some (w.ctlMask.setWidth 32)
  else none

/-- Writing one watchpoint register; a write of the control value clears CHAINOUT (rule R57 of 10_state.md). -/
def Watch.write (w : Watch) (a : BitVec 3) (v : Word) : Option Watch :=
  if a = 0 then some { w with addrValue := v }
  else if a = 1 then some { w with addrMask := v }
  else if a = 2 then some { w with dataValue := v }
  else if a = 3 then some { w with dataMask := v }
  else if a = 4 then some { w with ctlValue := v.setWidth 9, chainOut := false }
  else if a = 5 then some { w with ctlMask := v.setWidth 8 }
  else none

/-- The live signals of the debug status register, rule R49 of 10_state.md: TBIT, nMREQ, IFEN, DBGRQ, DBGACK. Bit 1 is DBGRQI, the
pin or the latched control bit, which the spec leaves open: DESIGN CHOICE, unsafe (log entry 44). -/
def State.debugStatus (s : State) : BitVec 5 :=
  BitVec.ofBool s.cpsr.t ++ BitVec.ofBool s.dbg.inDebug ++ BitVec.ofBool s.ifen ++ BitVec.ofBool s.dbgrqi ++
    BitVec.ofBool s.dbg.inDebug

/-- A watchpoint register may be written in debug state, or where its unit is off before and after (rule R559 of 61_debug.md,
decision D20). -/
def State.mayProgram (s : State) (before after : Watch) : Bool := s.dbg.inDebug || (!before.enabled && !after.enabled)

/-- A write of an EmbeddedICE register, rules R47 to R51 of 10_state.md and R546 of 60_exceptions.md. The status bits are written
and hold until the next TCK synchronises them again (log entry 44); the DCC control register is written by its events only and
keeps nothing (log entry 27). -/
def State.iceWrite (s : State) (a : BitVec 5) (v : Word) : Result :=
  if a = 0 then .next { s with ice := { s.ice with control := v.setWidth 3 } }
  else if a = 1 then .next { s with ice := { s.ice with status := v.setWidth 5 } }
  else if a = 4 then .next s
  else if a = 5 then .next { s with dcc := { s.dcc with dataRead := v, r := true } }
  else if a.extractLsb' 3 2 = 1 then
    match s.ice.w0.write (a.extractLsb' 0 3) v with
    | none => .refused .iceAddress
    | some w => if s.mayProgram s.ice.w0 w then .next { s with ice := { s.ice with w0 := w } } else .refused .watchProgramming
  else if a.extractLsb' 3 2 = 2 then
    match s.ice.w1.write (a.extractLsb' 0 3) v with
    | none => .refused .iceAddress
    | some w => if s.mayProgram s.ice.w1 w then .next { s with ice := { s.ice with w1 := w } } else .refused .watchProgramming
  else .refused .iceAddress

/-- The word an EmbeddedICE register gives and the state after the read (a read of the DCC data write register clears W, rule
R546 of 60_exceptions.md); none for an address the spec does not list. -/
def State.iceRead (s : State) (a : BitVec 5) : Option (Word × State) :=
  if a = 0 then some (s.ice.control.setWidth 32, s)
  else if a = 1 then some (s.ice.status.setWidth 32, s)
  else if a = 4 then some (s.dccControl, s.drawn)
  else if a = 5 then some (s.dcc.dataWrite, { s with dcc := { s.dcc with w := false } })
  else if a.extractLsb' 3 2 = 1 then (s.ice.w0.read (a.extractLsb' 0 3)).map (fun v => (v, s))
  else if a.extractLsb' 3 2 = 2 then (s.ice.w1.read (a.extractLsb' 0 3)).map (fun v => (v, s))
  else none

/-- UPDATE-DR with scan chain 2, rules R47 of 10_state.md and R576 of 61_debug.md: data bits [31:0], address [36:32], write (37).
A value read goes to the data field. With DBGEN LOW the EmbeddedICE logic does nothing (rule R554, log entry 30). -/
def State.updateChain2 (s : State) : Result :=
  if s.env.params.dbgen = false then .next s
  else
    let a := s.tap.chain2.extractLsb' 32 5
    if s.tap.chain2.getLsbD 37 then s.iceWrite a (s.tap.chain2.setWidth 32)
    else
      match s.iceRead a with
      | none => .refused .iceAddress
      | some (v, t) => .next { t with tap := { t.tap with chain2 := t.tap.chain2.extractLsb' 32 6 ++ v } }

/-! ## The actions of the controller states -/

/-- What scan chain 1 captures, rule R575: the first capture after debug entry reports bit 33 (rule R56 (d) of 10_state.md). Bit 33 of
later captures, and the data bits where the core has neither driven nor taken a word since debug entry, are any value (DESIGN
CHOICE, safe, log entry 34). -/
def State.captureChain1 (s : State) : State :=
  { s with
    tap := { s.tap with chain1 := BitVec.ofBool (s.dbg.bit33.getD s.freeBit) ++ s.dbg.bus.getD s.freeWord }
    dbg := { s.dbg with bit33 := none }
    free := s.free + 1 }

/-- What scan chain 1 captures under EXTEST, rules R572 and R575: the data bus and BREAKPT as the system drives them, any value. -/
def State.captureChain1Extest (s : State) : State :=
  { s.drawn with tap := { s.tap with chain1 := BitVec.ofBool s.freeBit ++ s.freeWord } }

/-- The output DBGACK: the core's own, ORed with bit 0 of the debug control register (rules R48 of 10_state.md and R565). -/
def State.dbgack (s : State) : Bool := s.dbg.inDebug || s.ice.control.getLsbD 0

/-- What a cell of scan chain 0 captures, by its number in the table of rule R574: inputs of which the model holds the level under
INTEST and EXTEST, outputs of the core under INTEST. nMREQ and SEQ show internal cycles in debug state (R556 (b)), and nMREQ is as
in the debug status register outside it; nRESET is HIGH, for a reset is an event of its own. Every other cell is any value (log
entry 36). -/
def State.chain0Cell (s : State) (cell : Nat) : Bool :=
  let any := s.freeBitAt cell
  let out (x : Bool) : Bool := if s.tap.intest then x else any
  if cell ≤ 32 then out ((s.dbg.bus.map (fun w => w.getLsbD (cell - 1))).getD any)
  else if 63 ≤ cell ∧ cell ≤ 67 then out (!s.cpsr.m.getLsbD (67 - cell))
  else if cell = 37 then s.env.params.bigend
  else if cell = 47 then out s.dbgack
  else if cell = 49 then s.env.pins.nFiq
  else if cell = 50 then s.env.pins.nIrq
  else if cell = 51 then true
  else if cell = 53 then s.env.pins.dbgrq
  else if cell = 57 then s.ifen
  else if cell = 59 then out (s.debugStatus.getLsbD 3)
  else if cell = 60 then out (!s.dbg.inDebug && any)
  else if cell = 61 then out s.isPriv
  else if cell = 72 then out s.cpsr.t
  else any

/-- The 105 cells of scan chain 0 at a capture, cell 1 in bit 0. -/
def State.chain0Cells (s : State) : BitVec 105 :=
  (BitVec.ofBoolListLE ((List.range 105).map (fun k => s.chain0Cell (k + 1)))).setWidth 105

/-- What scan chain 0 captures. -/
def State.captureChain0 (s : State) : State :=
  { s with tap := { s.tap with chain0 := s.chain0Cells }, free := s.free + 106 }

/-- The 32 bits of the identification code: version, part number, manufacturer, and bit 0 = 1 (rules R52 of 10_state.md and R571). -/
def IdCode.word (c : IdCode) : Word := c.version ++ c.part ++ c.manufacturer ++ 1#1

/-- CAPTURE-DR, rules R52 of 10_state.md, R571 to R576 of 61_debug.md. The external chain is not the core's (R577). -/
def State.captureDr (s : State) : Result :=
  match s.tap.dataReg with
  | .select => .next { s with tap := { s.tap with selectShift := 0b1000#4 } }
  | .id => .next { s with tap := { s.tap with idShift := s.env.params.idcode.word } }
  | .chain0 => .next s.captureChain0
  | .chain1 => .next (if s.tap.intest then s.captureChain1 else s.captureChain1Extest)
  | .chain2 => .next s
  | .external => .next s
  | .bypass => .next { s with tap := { s.tap with bypass := false } }

/-- SHIFT-DR, rules R571 to R576: scan chain 0 leaves with A[0] first, scan chain 1 with BREAKPT, the others with bit 0. What the
external chain gives on SDOUTBS is any value (R573). -/
def State.shiftDr (s : State) (tdi : Bool) : Result :=
  let t := s.tap
  match t.dataReg with
  | .select => .next { s with tap := { t with tdo := t.selectShift.getLsbD 0, selectShift := shiftRight t.selectShift tdi } }
  | .id => .next { s with tap := { t with tdo := t.idShift.getLsbD 0, idShift := shiftRight t.idShift tdi } }
  | .chain0 =>
    .next { s with tap := { t with tdo := t.chain0.getLsbD 104, chain0 := t.chain0 <<< 1 ||| (BitVec.ofBool tdi).setWidth 105 } }
  | .chain1 =>
    .next { s with tap := { t with tdo := t.chain1.getLsbD 32, chain1 := t.chain1 <<< 1 ||| (BitVec.ofBool tdi).setWidth 33 } }
  | .chain2 => .next { s with tap := { t with tdo := t.chain2.getLsbD 0, chain2 := shiftRight t.chain2 tdi } }
  | .external => .next { s.drawn with tap := { t with tdo := s.freeBit } }
  | .bypass => .next { s with tap := { t with tdo := t.bypass, bypass := tdi } }

/-- UPDATE-DR, rules R573, R576 and R578: SCAN_N connects a scan chain (4 and 8 are refused, S20), scan chain 2 makes its access;
the other chains do nothing to the core. -/
def State.updateDr (s : State) : Result :=
  match s.tap.dataReg with
  | .select =>
    if s.tap.selectShift = 4 ∨ s.tap.selectShift = 8 then .refused .scanChain
    else .next { s with tap := { s.tap with select := s.tap.selectShift } }
  | .chain2 => s.updateChain2
  | .id => .next s
  | .chain0 => .next s
  | .chain1 => .next s
  | .external => .next s
  | .bypass => .next s

/-- UPDATE-IR, rule R572: SAMPLE/PRELOAD must never be used, CLAMP only with scan chain 0 selected (S22 and S23 of
93_implementation_defined.md: both are refused). -/
def State.updateIr (s : State) : Result :=
  if s.tap.irShift = 0b0011#4 ∨ (s.tap.irShift = 0b0101#4 ∧ s.tap.select ≠ 0) then .refused .scanChain
  else .next { s with tap := { s.tap with ir := s.tap.irShift } }

/-- The word in scan chain 1 as the core takes it. -/
def Tap.slot (t : Tap) : DbgSlot := { word := t.chain1.setWidth 32, mark := t.chain1.getLsbD 32 }

/-- In RUN-TEST-IDLE: the latch of the DBGRQ control bit is open (rule R48 of 10_state.md); coming from UPDATE-DR, INTEST on scan
chain 1 clocks the core once (rule R561), EXTEST does not (R574). A clock for a production test, on scan chain 0 or on scan chain 1
outside debug state, is out of the spec's scope (rules R5 of 00_scope.md and R574) and refused (log entry 36). Entered with RESTART
the current instruction, by UPDATE-IR or by UPDATE-DR, the core restarts (rules R564 and R572). -/
def State.idle (s : State) (from' : TapState) : Result :=
  let s := ({ s with ice := { s.ice with dbgrqSync := s.ice.control.getLsbD 1 } } : State)
  if from' = .updateDr ∧ s.tap.intest = true ∧ (s.tap.chain = .chain0 ∨ s.tap.chain = .chain1) then
    if s.dbg.inDebug ∧ s.tap.chain = .chain1 then s.debugClock s.tap.slot else .refused .productionTest
  else if from' ≠ .runTestIdle ∧ s.tap.ir = 0b0100#4 ∧ s.dbg.inDebug then s.restart
  else .next s

/-- What is done on leaving the present state: the captures and shifts. -/
def State.tapAct (s : State) (tdi : Bool) : Result :=
  match s.tap.state with
  | .captureDr => s.captureDr
  | .shiftDr => s.shiftDr tdi
  | .captureIr => .next { s with tap := { s.tap with irShift := 0b0001#4 } }
  | .shiftIr =>
    .next { s with tap := { s.tap with tdo := s.tap.irShift.getLsbD 0, irShift := shiftRight s.tap.irShift tdi } }
  | .testLogicReset | .runTestIdle | .selectDr | .exit1Dr | .pauseDr | .exit2Dr | .updateDr | .selectIr | .exit1Ir | .pauseIr
  | .exit2Ir | .updateIr => .next s

/-- What is done on entering a state: the updates, RUN-TEST-IDLE, and TEST-LOGIC RESET, which selects IDCODE and scan chain 3
(rule R61 of 10_state.md). -/
def State.tapEnter (s : State) (from' : TapState) : Result :=
  match s.tap.state with
  | .testLogicReset => .next { s with tap := { s.tap with ir := 0b1110#4, select := 3 } }
  | .runTestIdle => s.idle from'
  | .updateDr => s.updateDr
  | .updateIr => s.updateIr
  | .selectDr | .captureDr | .shiftDr | .exit1Dr | .pauseDr | .exit2Dr | .selectIr | .captureIr | .shiftIr | .exit1Ir | .pauseIr
  | .exit2Ir => .next s

/-- The debug status register synchronised to TCK (rule R49 of 10_state.md, log entry 44). -/
def State.synchronised (s : State) : State := { s with ice := { s.ice with status := s.debugStatus } }

/-- The states in which serial data is driven on TDO, SHIFT-DR and SHIFT-IR (rule R570; DEDUCED, log entry 50). -/
def TapState.drives : TapState → Bool
  | .shiftDr | .shiftIr => true
  | .testLogicReset | .runTestIdle | .selectDr | .captureDr | .exit1Dr | .pauseDr | .exit2Dr | .updateDr | .selectIr | .captureIr
  | .exit1Ir | .pauseIr | .exit2Ir | .updateIr => false

/-- One TCK cycle, rule R570. -/
def State.tck (s : State) (tms tdi : Bool) : Result :=
  match s.synchronised.tapAct tdi with
  | .fault f => .fault f
  | .refused r => .refused r
  | .next t =>
    ({ t with tap := { t.tap with state := s.tap.state.next tms, tdoDriven := s.tap.state.drives } } : State).tapEnter s.tap.state

/-- An event of the environment applied to the machine. -/
def State.applied (s : State) : Event → Result
  | .run => s.coreStep
  | .pins p => .next { s.fresh with env := { s.env with pins := p } }
  | .memory map aborts extBreak => .next { s.fresh with env := { s.env with map := map, aborts := aborts, extBreak := extBreak } }
  | .answers coprocs devIn => .next { s.fresh with env := { s.env with coprocs := coprocs, devIn := devIn } }
  | .reset cycles after => s.resetEvent cycles after
  | .nTrst => .next s.fresh.testReset
  | .tck tms tdi => s.fresh.tck tms tdi

end Sys2Proof.Machine
end

