-- ==== Sys2Proof/Machine/Step.lean ====
section
/-! DEFINITION. One step of the machine: the next event of the environment, or, where the script holds none, the core. -/

namespace Sys2Proof.Machine

/-- One step: the first event of the script is taken off it and applied; `run`, and an empty script, is a step of the core
(rule R505 of 60_exceptions.md). Events fall between instructions, a reset also inside one (log entry 21). -/
def step (s : State) : Host.Outcome State Fault Refusal :=
  match s.script with
  | [] => s.coreStep
  | e :: rest => ({ s with script := rest } : State).applied e

/-- The state with the instruction of a table row, bit 0 of `w` its least significant bit, placed where the next step fetches. -/
def State.withFetchWord (s : State) (nbits w : Nat) : State := s.withFetched nbits w

end Sys2Proof.Machine
end

