-- ==== Sys2Proof/Machine/Outputs.lean ====
section
/-! DEFINITION. The output pins whose level follows from the state. -/

namespace Sys2Proof.Machine

/-- Output pins after a step: DBGACK (rules R48 of 10_state.md and R565 of 61_debug.md), COMMRX and COMMTX (R546 of
60_exceptions.md), TBIT and nM[4:0] (R72 of 20_memory.md), TDO, nTDOEN and TAPSM[3:0] (R570 of 61_debug.md), IR[3:0] and HIGHZ
(R572), SCREG[3:0] and BUSDIS (R573); and, for each bus cycle of the step, RANGEOUT0 and RANGEOUT1 (R557). TDO and nTDOEN are
those of the TCK cycle that the step was. `floating` says whether A[31:0], D[31:0], nRW, nOPC, LOCK, MAS[1:0] and nTRANS are at
high impedance (R572). -/
structure Outputs where
  dbgack : Bool
  commRx : Bool
  commTx : Bool
  tbit : Bool
  nM : BitVec 5
  tdo : Bool
  nTdoEn : Bool
  tapsm : BitVec 4
  ir : BitVec 4
  highz : Bool
  floating : Bool
  screg : BitVec 4
  busdis : Bool
  rangeOut : List RangeOut
  deriving DecidableEq, Repr

/-- A number for each state of the TAP controller, by which `Config.tapsm` names its code; it is not the code. -/
def TapState.number : TapState → Nat
  | .testLogicReset => 0 | .runTestIdle => 1
  | .selectDr => 2 | .captureDr => 3 | .shiftDr => 4 | .exit1Dr => 5 | .pauseDr => 6 | .exit2Dr => 7 | .updateDr => 8
  | .selectIr => 9 | .captureIr => 10 | .shiftIr => 11 | .exit1Ir => 12 | .pauseIr => 13 | .exit2Ir => 14 | .updateIr => 15

/-- HIGHZ is the instruction of the TAP controller (rule R572). -/
def Tap.highz (t : Tap) : Bool := decide (t.ir = 0b0111#4)

/-- The three-state outputs are inactive: HIGHZ or CLAMPZ is the instruction (rule R572; log entry 36). -/
def Tap.floats (t : Tap) : Bool := t.highz || decide (t.ir = 0b1001#4)

/-- BUSDIS: INTEST on scan chain 0, 4 or 8 (rule R573). -/
def Tap.busdis (t : Tap) : Bool := t.intest && decide (t.select = 0 ∨ t.select = 4 ∨ t.select = 8)

/-- The output pins. COMMRX is HIGH where the receive buffer is full (R), COMMTX where the transmit buffer is empty (W clear);
nTDOEN is LOW while serial data is driven on TDO; TAPSM is the code of the controller state (log entry 50). -/
def State.outputs (s : State) : Outputs :=
  { dbgack := s.dbgack, commRx := s.dcc.r, commTx := !s.dcc.w, tbit := s.cpsr.t, nM := ~~~ s.cpsr.m, tdo := s.tap.tdo,
    nTdoEn := !s.tap.tdoDriven, tapsm := Config.tapsm s.tap.state.number, ir := s.tap.ir,
    highz := s.tap.highz, floating := s.tap.floats, screg := s.tap.select, busdis := s.tap.busdis,
    rangeOut := s.ranges }

end Sys2Proof.Machine
end

