-- ==== Sys2Proof/Safety.lean ====
section
/-! DEFINITION. What a safe state and a safe run are, in the terms statements use: the invariant every step keeps, and runs
that neither fault nor are refused. -/

namespace Sys2Proof.Machine

/-- The program counter keeps the alignment of the state, rule R34 of 10_state.md: a multiple of 4 in ARM state and of 2 in
Thumb state. -/
def State.pcAligned (s : State) : Prop := if s.cpsr.t then s.pc &&& 1#32 = 0#32 else s.pc &&& 3#32 = 0#32

/-- The invariant of the machine: memory is in its canonical form and the program counter is aligned. -/
def State.Inv (s : State) : Prop := s.mem.wf = true ∧ s.pcAligned

/-- The state after n steps, where each of them answers a next state. -/
def State.after : Nat → State → Option State
  | 0, s => some s
  | n + 1, s =>
    match step s with
    | .next t => State.after n t
    | .fault _ => none
    | .refused _ => none

/-- A run of n steps is safe: none of them stops. -/
def State.safeFor (n : Nat) (s : State) : Prop := (s.after n).isSome = true

end Sys2Proof.Machine
end

