-- ==== Sys2Proof/Certificates/Slice0/Obligations.lean ====
section
/-! DEFINITION. The statements for the provers, and the vocabulary they are written in: tables of the instructions by family and
the values the rules of spec/ give, written apart from the meanings. -/

namespace Sys2Proof.Claims

open Sys2Proof.Machine

/-! ## When an instruction executes -/

/-- Whether an instruction is a Thumb instruction. -/
def isThumb (i : Instr) : Bool :=
  match encode i with
  | .arm _ => false
  | .thumb _ => true

/-- The instruction executes: the state is its own, the mode is legal, it is well formed, its condition passes, and none of the
registers it reads is under the hazard of rule R620. -/
abbrev Runs (i : Instr) (reads : List Reg) (s : State) : Prop :=
  s.cpsr.t = isThumb i ∧ Mode.ofBits s.cpsr.m ≠ none ∧ i.violation = none ∧
    conditionPassed s.cpsr (i.cond?.getD .al) = true ∧ s.hazard reads = false

/-- A coprocessor instruction reaches the handshake: ARM state, a legal mode, the condition passes. -/
abbrev Offered (i : Instr) (s : State) : Prop :=
  s.cpsr.t = false ∧ Mode.ofBits s.cpsr.m ≠ none ∧ conditionPassed s.cpsr (i.cond?.getD .al) = true

/-- The next address does not wrap (rule R33); in debug state the program counter only counts. -/
abbrev Room (s : State) : Prop := s.dbg.inDebug = true ∨ s.pc.toNat + s.len.toNat < 2^32

/-- A read of n bytes at the aligned address `a` finds memory and does not abort. -/
abbrev Readable (s : State) (a : Word) (z : Size) (priv : Bool) : Prop :=
  s.dbg.feed = none ∧ s.env.aborting a.toNat z .read priv = false ∧
    (s.env.region a.toNat = some .storage ∨ s.env.region a.toNat = some .readOnly)

/-- A write at the aligned address `a` finds storage, does not abort, and is not into the two slots of rule R98. -/
abbrev Writable (s : State) (a : Word) (z : Size) (priv : Bool) : Prop :=
  s.dbg.feed = none ∧ s.env.aborting a.toNat z .write priv = false ∧ s.env.region a.toNat = some .storage ∧
    (s.dbg.inDebug = true ∨ s.inCodeWindow a z = false)

/-! ## Data processing -/

/-- The second operand of the three ARM formats A10, A11 and A12. -/
inductive Operand2 where
  | imm (rot : BitVec 4) (imm : BitVec 8)
  | shi (amount : BitVec 5) (sh : ShiftType) (rm : Reg)
  | shr (rs : Reg) (sh : ShiftType) (rm : Reg)
  deriving DecidableEq, Repr

/-- The instruction of an operation with a second operand. -/
def Operand2.instr (o : Operand2) (op : DpOp) (cond : Cond) (sf : Bool) (rn rd : Reg) : Instr :=
  match o with
  | .imm rot v => mkDpImm op cond sf rn rd rot v
  | .shi a sh rm => mkDpShi op cond sf rn rd a sh rm
  | .shr rs sh rm => mkDpShr op cond sf rn rd rs sh rm

/-- The registers the instruction reads. -/
def Operand2.reads (o : Operand2) (rn : Reg) : List Reg :=
  match o with
  | .imm _ _ => [rn]
  | .shi _ _ rm => [rn, rm]
  | .shr rs _ rm => [rn, rs, rm]

/-- The first operand: r15 reads three instructions ahead with a register-specified shift (rule R124). -/
def Operand2.first (o : Operand2) (s : State) (rn : Reg) : Word :=
  match o with
  | .imm _ _ => s.reg rn
  | .shi _ _ _ => s.reg rn
  | .shr _ _ _ => s.regAhead rn

/-- The second operand and the shifter's carry (rules R121 to R124; `ShiftByRegister` and `ShiftByImmediate` say what these are). -/
def Operand2.second (o : Operand2) (s : State) : Shifted :=
  match o with
  | .imm rot v => immediateOperand s.cpsr.c rot v
  | .shi a sh rm => shiftByImmediate s.cpsr.c sh (s.reg rm) a.toNat
  | .shr rs sh rm => shiftByRegister s.cpsr.c sh (s.regAhead rm) ((s.reg rs).toNat % 256)

/-- TST, TEQ, CMP and CMN write no register. -/
def isTest : DpOp → Bool
  | .tst => true | .teq => true | .cmp => true | .cmn => true
  | .and => false | .eor => false | .sub => false | .rsb => false | .add => false | .adc => false | .sbc => false
  | .rsc => false | .orr => false | .mov => false | .bic => false | .mvn => false

/-- The carry flag as a number. -/
def bit (c : Bool) : Nat := if c then 1 else 0

/-- The results of rules R180 to R195. -/
def dpValue (op : DpOp) (a b : Word) (c : Bool) : Word :=
  match op with
  | .and => a &&& b | .tst => a &&& b
  | .eor => a ^^^ b | .teq => a ^^^ b
  | .sub => a - b | .cmp => a - b
  | .rsb => b - a
  | .add => a + b | .cmn => a + b
  | .adc => a + b + BitVec.ofNat 32 (bit c)
  | .sbc => a - b - BitVec.ofNat 32 (bit (!c))
  | .rsc => b - a - BitVec.ofNat 32 (bit (!c))
  | .orr => a ||| b
  | .mov => b
  | .bic => a &&& ~~~ b
  | .mvn => ~~~ b

/-- The C flag: the shifter's carry for a logical operation, the carry out of an addition, NOT borrow of a subtraction. -/
def dpCarry (op : DpOp) (a b : Word) (c sc : Bool) : Bool :=
  match op with
  | .add => decide (2^32 ≤ a.toNat + b.toNat) | .cmn => decide (2^32 ≤ a.toNat + b.toNat)
  | .adc => decide (2^32 ≤ a.toNat + b.toNat + bit c)
  | .sub => decide (b.toNat ≤ a.toNat) | .cmp => decide (b.toNat ≤ a.toNat)
  | .rsb => decide (a.toNat ≤ b.toNat)
  | .sbc => decide (b.toNat + bit (!c) ≤ a.toNat)
  | .rsc => decide (a.toNat + bit (!c) ≤ b.toNat)
  | .and => sc | .tst => sc | .eor => sc | .teq => sc | .orr => sc | .mov => sc | .bic => sc | .mvn => sc

/-- Whether an exact signed result lies outside the 32-bit range. -/
def outside (x : Int) : Bool := decide (x < -2147483648) || decide (2147483647 < x)

/-- The V flag: signed overflow of an addition or subtraction, unchanged by a logical operation. -/
def dpOverflow (op : DpOp) (a b : Word) (c v : Bool) : Bool :=
  match op with
  | .add => outside (a.toInt + b.toInt) | .cmn => outside (a.toInt + b.toInt)
  | .adc => outside (a.toInt + b.toInt + bit c)
  | .sub => outside (a.toInt - b.toInt) | .cmp => outside (a.toInt - b.toInt)
  | .rsb => outside (b.toInt - a.toInt)
  | .sbc => outside (a.toInt - b.toInt - bit (!c))
  | .rsc => outside (b.toInt - a.toInt - bit (!c))
  | .and => v | .tst => v | .eor => v | .teq => v | .orr => v | .mov => v | .bic => v | .mvn => v

/-- The status register after the operation with S. -/
def dpFlags (op : DpOp) (a : Word) (b : Shifted) (p : Psr) : Psr :=
  { p with
    n := (dpValue op a b.value p.c).getLsbD 31
    z := decide (dpValue op a b.value p.c = 0#32)
    c := dpCarry op a b.value p.c b.carry
    v := dpOverflow op a b.value p.c p.v }

/-- The state after a data processing instruction that falls through: Rd and the flags, the program counter, and nothing else but
the privileges of the coming fetches and the mark of a User-bank LDM, which every executed instruction moves (`begun`). -/
def dpNext (op : DpOp) (sf : Bool) (rd : Reg) (a : Word) (b : Shifted) (s : State) : State :=
  { s.begun with
    regs := if isTest op then s.regs else (s.setReg rd (dpValue op a b.value s.cpsr.c)).regs
    cpsr := if sf || isTest op then dpFlags op a b s.cpsr else s.cpsr
    pc := s.pc + s.len }

/-- An operation, its destination, its first and second operand, the registers read. -/
structure AluForm where
  op : DpOp
  rd : Reg
  a : Word
  b : Shifted
  reads : List Reg
  deriving DecidableEq, Repr

/-- The Thumb instructions that are a data processing operation with S (formats T1 to T4 and CMP of T5): rules R368 to R378, R380 to
R392, R394, R395 and R397. -/
def thumbAluForm (s : State) : Instr → Option AluForm
  | .tCmpHi rd rs => some ⟨.cmp, rd, s.reg rd, ⟨s.reg rs, s.cpsr.c⟩, [rd, rs]⟩
  | .tLslImm rd rs amount => some ⟨.mov, rd.reg, 0, shiftByImmediate s.cpsr.c .lsl (s.reg rs.reg) amount.toNat, []⟩
  | .tLsrImm rd rs amount => some ⟨.mov, rd.reg, 0, shiftByImmediate s.cpsr.c .lsr (s.reg rs.reg) amount.toNat, []⟩
  | .tAsrImm rd rs amount => some ⟨.mov, rd.reg, 0, shiftByImmediate s.cpsr.c .asr (s.reg rs.reg) amount.toNat, []⟩
  | .tAddReg rd rs rn => some ⟨.add, rd.reg, s.reg rs.reg, ⟨s.reg rn.reg, s.cpsr.c⟩, []⟩
  | .tSubReg rd rs rn => some ⟨.sub, rd.reg, s.reg rs.reg, ⟨s.reg rn.reg, s.cpsr.c⟩, []⟩
  | .tAddImm3 rd rs imm => some ⟨.add, rd.reg, s.reg rs.reg, ⟨imm.setWidth 32, s.cpsr.c⟩, []⟩
  | .tSubImm3 rd rs imm => some ⟨.sub, rd.reg, s.reg rs.reg, ⟨imm.setWidth 32, s.cpsr.c⟩, []⟩
  | .tMovImm rd imm => some ⟨.mov, rd.reg, 0, ⟨imm.setWidth 32, s.cpsr.c⟩, []⟩
  | .tCmpImm rd imm => some ⟨.cmp, rd.reg, s.reg rd.reg, ⟨imm.setWidth 32, s.cpsr.c⟩, []⟩
  | .tAddImm8 rd imm => some ⟨.add, rd.reg, s.reg rd.reg, ⟨imm.setWidth 32, s.cpsr.c⟩, []⟩
  | .tSubImm8 rd imm => some ⟨.sub, rd.reg, s.reg rd.reg, ⟨imm.setWidth 32, s.cpsr.c⟩, []⟩
  | .tAnd rd rs => some ⟨.and, rd.reg, s.reg rd.reg, ⟨s.reg rs.reg, s.cpsr.c⟩, []⟩
  | .tEor rd rs => some ⟨.eor, rd.reg, s.reg rd.reg, ⟨s.reg rs.reg, s.cpsr.c⟩, []⟩
  | .tLslReg rd rs => some ⟨.mov, rd.reg, 0, shiftByRegister s.cpsr.c .lsl (s.reg rd.reg) ((s.reg rs.reg).toNat % 256), []⟩
  | .tLsrReg rd rs => some ⟨.mov, rd.reg, 0, shiftByRegister s.cpsr.c .lsr (s.reg rd.reg) ((s.reg rs.reg).toNat % 256), []⟩
  | .tAsrReg rd rs => some ⟨.mov, rd.reg, 0, shiftByRegister s.cpsr.c .asr (s.reg rd.reg) ((s.reg rs.reg).toNat % 256), []⟩
  | .tAdc rd rs => some ⟨.adc, rd.reg, s.reg rd.reg, ⟨s.reg rs.reg, s.cpsr.c⟩, []⟩
  | .tSbc rd rs => some ⟨.sbc, rd.reg, s.reg rd.reg, ⟨s.reg rs.reg, s.cpsr.c⟩, []⟩
  | .tRorReg rd rs => some ⟨.mov, rd.reg, 0, shiftByRegister s.cpsr.c .ror (s.reg rd.reg) ((s.reg rs.reg).toNat % 256), []⟩
  | .tTst rd rs => some ⟨.tst, rd.reg, s.reg rd.reg, ⟨s.reg rs.reg, s.cpsr.c⟩, []⟩
  | .tNeg rd rs => some ⟨.sub, rd.reg, 0, ⟨s.reg rs.reg, s.cpsr.c⟩, []⟩
  | .tCmpReg rd rs => some ⟨.cmp, rd.reg, s.reg rd.reg, ⟨s.reg rs.reg, s.cpsr.c⟩, []⟩
  | .tCmn rd rs => some ⟨.cmn, rd.reg, s.reg rd.reg, ⟨s.reg rs.reg, s.cpsr.c⟩, []⟩
  | .tOrr rd rs => some ⟨.orr, rd.reg, s.reg rd.reg, ⟨s.reg rs.reg, s.cpsr.c⟩, []⟩
  | .tBic rd rs => some ⟨.bic, rd.reg, s.reg rd.reg, ⟨s.reg rs.reg, s.cpsr.c⟩, []⟩
  | .tMvn rd rs => some ⟨.mvn, rd.reg, 0, ⟨s.reg rs.reg, s.cpsr.c⟩, []⟩
  | _ => none

/-! ## Loads and stores -/

/-- A single transfer: its kind or size, whether it is made with User privilege, the registers read, its address and base
(rule R255), the base register and the register transferred. -/
structure Single (κ : Type) where
  kind : κ
  user : Bool
  reads : List Reg
  tr : Transfer
  rn : Reg
  rd : Reg

/-- The loads: rules R263, R264, R271, R272, R275 to R277 and the Thumb loads of 49_thumb_mem_branch.md. -/
def loadForm (s : State) : Instr → Option (Single LoadKind)
  | .ldrhReg _ p u w rn rd rm =>
    some ⟨.half, false, [rn, rm], transferOf p u (!p || w) (s.reg rn) (s.reg rm), rn, rd⟩
  | .ldrhImm _ p u w rn rd off =>
    some ⟨.half, false, [rn], transferOf p u (!p || w) (s.reg rn) (off.setWidth 32), rn, rd⟩
  | .ldrsbReg _ p u w rn rd rm =>
    some ⟨.signedByte, false, [rn, rm], transferOf p u (!p || w) (s.reg rn) (s.reg rm), rn, rd⟩
  | .ldrsbImm _ p u w rn rd off =>
    some ⟨.signedByte, false, [rn], transferOf p u (!p || w) (s.reg rn) (off.setWidth 32), rn, rd⟩
  | .ldrshReg _ p u w rn rd rm =>
    some ⟨.signedHalf, false, [rn, rm], transferOf p u (!p || w) (s.reg rn) (s.reg rm), rn, rd⟩
  | .ldrshImm _ p u w rn rd off =>
    some ⟨.signedHalf, false, [rn], transferOf p u (!p || w) (s.reg rn) (off.setWidth 32), rn, rd⟩
  | .ldrImm _ u w rn rd off =>
    some ⟨.word, false, [rn], transferOf true u w (s.reg rn) (off.setWidth 32), rn, rd⟩
  | .ldrImmPost _ u rn rd off =>
    some ⟨.word, false, [rn], transferOf false u true (s.reg rn) (off.setWidth 32), rn, rd⟩
  | .ldrReg _ u w rn rd shamt sh rm =>
    some ⟨.word, false, [rn, rm], transferOf true u w (s.reg rn) ((shiftByImmediate s.cpsr.c sh (s.reg rm) shamt.toNat).value), rn, rd⟩
  | .ldrRegPost _ u rn rd shamt sh rm =>
    some ⟨.word, false, [rn, rm], transferOf false u true (s.reg rn) ((shiftByImmediate s.cpsr.c sh (s.reg rm) shamt.toNat).value), rn, rd⟩
  | .ldrbImm _ u w rn rd off =>
    some ⟨.byte, false, [rn], transferOf true u w (s.reg rn) (off.setWidth 32), rn, rd⟩
  | .ldrbImmPost _ u rn rd off =>
    some ⟨.byte, false, [rn], transferOf false u true (s.reg rn) (off.setWidth 32), rn, rd⟩
  | .ldrbReg _ u w rn rd shamt sh rm =>
    some ⟨.byte, false, [rn, rm], transferOf true u w (s.reg rn) ((shiftByImmediate s.cpsr.c sh (s.reg rm) shamt.toNat).value), rn, rd⟩
  | .ldrbRegPost _ u rn rd shamt sh rm =>
    some ⟨.byte, false, [rn, rm], transferOf false u true (s.reg rn) ((shiftByImmediate s.cpsr.c sh (s.reg rm) shamt.toNat).value), rn, rd⟩
  | .ldrtImm _ u rn rd off =>
    some ⟨.word, true, [rn], transferOf false u true (s.reg rn) (off.setWidth 32), rn, rd⟩
  | .ldrtReg _ u rn rd shamt sh rm =>
    some ⟨.word, true, [rn, rm], transferOf false u true (s.reg rn) ((shiftByImmediate s.cpsr.c sh (s.reg rm) shamt.toNat).value), rn, rd⟩
  | .ldrbtImm _ u rn rd off =>
    some ⟨.byte, true, [rn], transferOf false u true (s.reg rn) (off.setWidth 32), rn, rd⟩
  | .ldrbtReg _ u rn rd shamt sh rm =>
    some ⟨.byte, true, [rn, rm], transferOf false u true (s.reg rn) ((shiftByImmediate s.cpsr.c sh (s.reg rm) shamt.toNat).value), rn, rd⟩
  | .tLdrPc rd off => some ⟨.word, false, [], transferOf true true false ((s.pcRead &&& 0xFFFFFFFC#32) + 4 * off.setWidth 32) 0, 0#4, rd.reg⟩
  | .tLdrsbReg rd rb ro => some ⟨.signedByte, false, [], transferOf true true false (s.reg rb.reg + s.reg ro.reg) 0, 0#4, rd.reg⟩
  | .tLdrReg rd rb ro => some ⟨.word, false, [], transferOf true true false (s.reg rb.reg + s.reg ro.reg) 0, 0#4, rd.reg⟩
  | .tLdrhReg rd rb ro => some ⟨.half, false, [], transferOf true true false (s.reg rb.reg + s.reg ro.reg) 0, 0#4, rd.reg⟩
  | .tLdrbReg rd rb ro => some ⟨.byte, false, [], transferOf true true false (s.reg rb.reg + s.reg ro.reg) 0, 0#4, rd.reg⟩
  | .tLdrshReg rd rb ro => some ⟨.signedHalf, false, [], transferOf true true false (s.reg rb.reg + s.reg ro.reg) 0, 0#4, rd.reg⟩
  | .tLdrImm rd rb off => some ⟨.word, false, [], transferOf true true false (s.reg rb.reg + 4 * off.setWidth 32) 0, 0#4, rd.reg⟩
  | .tLdrbImm rd rb off => some ⟨.byte, false, [], transferOf true true false (s.reg rb.reg + off.setWidth 32) 0, 0#4, rd.reg⟩
  | .tLdrhImm rd rb off => some ⟨.half, false, [], transferOf true true false (s.reg rb.reg + 2 * off.setWidth 32) 0, 0#4, rd.reg⟩
  | .tLdrSp rd off => some ⟨.word, false, [13#4], transferOf true true false (s.reg 13#4 + 4 * off.setWidth 32) 0, 0#4, rd.reg⟩
  | _ => none

/-- The stores: rules R267, R268, R273, R274, R278 and the Thumb stores of 49_thumb_mem_branch.md. -/
def storeForm (s : State) : Instr → Option (Single Size)
  | .strhReg _ p u w rn rd rm =>
    some ⟨.half, false, [rn, rm, rd], transferOf p u (!p || w) (s.reg rn) (s.reg rm), rn, rd⟩
  | .strhImm _ p u w rn rd off =>
    some ⟨.half, false, [rn, rd], transferOf p u (!p || w) (s.reg rn) (off.setWidth 32), rn, rd⟩
  | .strImm _ u w rn rd off =>
    some ⟨.word, false, [rn, rd], transferOf true u w (s.reg rn) (off.setWidth 32), rn, rd⟩
  | .strImmPost _ u rn rd off =>
    some ⟨.word, false, [rn, rd], transferOf false u true (s.reg rn) (off.setWidth 32), rn, rd⟩
  | .strReg _ u w rn rd shamt sh rm =>
    some ⟨.word, false, [rn, rm, rd], transferOf true u w (s.reg rn) ((shiftByImmediate s.cpsr.c sh (s.reg rm) shamt.toNat).value), rn, rd⟩
  | .strRegPost _ u rn rd shamt sh rm =>
    some ⟨.word, false, [rn, rm, rd], transferOf false u true (s.reg rn) ((shiftByImmediate s.cpsr.c sh (s.reg rm) shamt.toNat).value), rn, rd⟩
  | .strbImm _ u w rn rd off =>
    some ⟨.byte, false, [rn, rd], transferOf true u w (s.reg rn) (off.setWidth 32), rn, rd⟩
  | .strbImmPost _ u rn rd off =>
    some ⟨.byte, false, [rn, rd], transferOf false u true (s.reg rn) (off.setWidth 32), rn, rd⟩
  | .strbReg _ u w rn rd shamt sh rm =>
    some ⟨.byte, false, [rn, rm, rd], transferOf true u w (s.reg rn) ((shiftByImmediate s.cpsr.c sh (s.reg rm) shamt.toNat).value), rn, rd⟩
  | .strbRegPost _ u rn rd shamt sh rm =>
    some ⟨.byte, false, [rn, rm, rd], transferOf false u true (s.reg rn) ((shiftByImmediate s.cpsr.c sh (s.reg rm) shamt.toNat).value), rn, rd⟩
  | .strtImm _ u rn rd off =>
    some ⟨.word, true, [rn, rd], transferOf false u true (s.reg rn) (off.setWidth 32), rn, rd⟩
  | .strtReg _ u rn rd shamt sh rm =>
    some ⟨.word, true, [rn, rm, rd], transferOf false u true (s.reg rn) ((shiftByImmediate s.cpsr.c sh (s.reg rm) shamt.toNat).value), rn, rd⟩
  | .strbtImm _ u rn rd off =>
    some ⟨.byte, true, [rn, rd], transferOf false u true (s.reg rn) (off.setWidth 32), rn, rd⟩
  | .strbtReg _ u rn rd shamt sh rm =>
    some ⟨.byte, true, [rn, rm, rd], transferOf false u true (s.reg rn) ((shiftByImmediate s.cpsr.c sh (s.reg rm) shamt.toNat).value), rn, rd⟩
  | .tStrReg rd rb ro => some ⟨.word, false, [], transferOf true true false (s.reg rb.reg + s.reg ro.reg) 0, 0#4, rd.reg⟩
  | .tStrhReg rd rb ro => some ⟨.half, false, [], transferOf true true false (s.reg rb.reg + s.reg ro.reg) 0, 0#4, rd.reg⟩
  | .tStrbReg rd rb ro => some ⟨.byte, false, [], transferOf true true false (s.reg rb.reg + s.reg ro.reg) 0, 0#4, rd.reg⟩
  | .tStrImm rd rb off => some ⟨.word, false, [], transferOf true true false (s.reg rb.reg + 4 * off.setWidth 32) 0, 0#4, rd.reg⟩
  | .tStrbImm rd rb off => some ⟨.byte, false, [], transferOf true true false (s.reg rb.reg + off.setWidth 32) 0, 0#4, rd.reg⟩
  | .tStrhImm rd rb off => some ⟨.half, false, [], transferOf true true false (s.reg rb.reg + 2 * off.setWidth 32) 0, 0#4, rd.reg⟩
  | .tStrSp rd off => some ⟨.word, false, [13#4], transferOf true true false (s.reg 13#4 + 4 * off.setWidth 32) 0, 0#4, rd.reg⟩
  | _ => none

/-- What a load delivers from an aligned address (rule R84). -/
def loaded (k : LoadKind) (big : Bool) (m : Memory) (a : Word) : Word :=
  match k with
  | .word => m.word big a
  | .byte => (m.byte a).setWidth 32
  | .half => (m.half big a).setWidth 32
  | .signedByte => (m.byte a).signExtend 32
  | .signedHalf => (m.half big a).signExtend 32

/-- The registers after the base write-back. -/
def baseRegs {κ : Type} (f : Single κ) (s : State) : State := if f.tr.writeBack then s.setReg f.rn f.tr.newBase else s

/-- The bits of a word that a store of a size writes. -/
def truncated (z : Size) (v : Word) : Word :=
  match z with
  | .byte => (v.setWidth 8).setWidth 32
  | .half => (v.setWidth 16).setWidth 32
  | .word => v

/-- The access a read makes. -/
def readAccess (s : State) (a : Word) (z : Size) (priv lock : Bool) : BusAccess :=
  s.access a z .read priv lock (s.mem.word s.env.params.bigend (Size.word.align a)) false false

/-- The access a write makes: a byte is on four lanes, a halfword on two (rule R75). -/
def writeAccess (s : State) (a : Word) (z : Size) (v : Word) (priv lock : Bool) : BusAccess :=
  s.access a z .write priv lock (replicate z v) false false

/-- `m` is memory after a store of `v` at the aligned address `a`: the n bytes read back as the value, every other byte reads as
before, and the canonical form holds. -/
def Stored (s : State) (z : Size) (a v : Word) (m : Memory) : Prop :=
  m.wf = true ∧ m.value s.env.params.bigend z a = truncated z v ∧
    ∀ b : Word, (∀ k < z.bytes, b ≠ a + BitVec.ofNat 32 k) → m.byte b = s.mem.byte b

/-! ## Block transfers -/

/-- A block transfer: mode, `^`, write-back, base, list, the registers read. -/
structure Block where
  mode : BlockMode
  sb : Bool
  w : Bool
  rn : Reg
  list : BitVec 16
  reads : List Reg

/-- LDM in its four modes, POP and the Thumb LDMIA. -/
def loadBlock : Instr → Option Block
  | .ldmia _ sb w rn list => some ⟨.ia, sb, w, rn, list, [rn]⟩
  | .ldmib _ sb w rn list => some ⟨.ib, sb, w, rn, list, [rn]⟩
  | .ldmda _ sb w rn list => some ⟨.da, sb, w, rn, list, [rn]⟩
  | .ldmdb _ sb w rn list => some ⟨.db, sb, w, rn, list, [rn]⟩
  | .tPop r list => some ⟨.ia, false, true, 13#4, list.setWidth 16 ||| (if r then 0x8000#16 else 0#16), [13#4]⟩
  | .tLdmia rb list => some ⟨.ia, false, true, rb.reg, list.setWidth 16, []⟩
  | _ => none

/-- STM in its four modes, PUSH and the Thumb STMIA, executed in a mode. -/
def storeBlock (m : Mode) : Instr → Option Block
  | .stmia _ sb w rn list => some ⟨.ia, sb, w, rn, list, rn :: storeReads sb list m⟩
  | .stmib _ sb w rn list => some ⟨.ib, sb, w, rn, list, rn :: storeReads sb list m⟩
  | .stmda _ sb w rn list => some ⟨.da, sb, w, rn, list, rn :: storeReads sb list m⟩
  | .stmdb _ sb w rn list => some ⟨.db, sb, w, rn, list, rn :: storeReads sb list m⟩
  | .tPush r list => some ⟨.db, false, true, 13#4, list.setWidth 16 ||| (if r then 0x4000#16 else 0#16), 13#4 :: (if r then [14#4] else [])⟩
  | .tStmia rb list => some ⟨.ia, false, true, rb.reg, list.setWidth 16, []⟩
  | _ => none

/-- How many registers are listed. -/
def count (list : BitVec 16) : Nat := (listed list).length

/-- How many registers below `r` are listed: the place of the word of `r` (rule R292). -/
def rank (list : BitVec 16) (r : Reg) : Nat := ((List.range r.toNat).filter (fun k => list.getLsbD k)).length

/-- The address of the lowest word. -/
def Block.start (f : Block) (s : State) : Word := f.mode.start (s.reg f.rn) f.list

/-- The base after write-back. -/
def Block.newBase (f : Block) (s : State) : Word := f.mode.newBase (s.reg f.rn) f.list

/-- The address of the k-th word. -/
def Block.addr (f : Block) (s : State) (k : Nat) : Word := f.start s + BitVec.ofNat 32 (4 * k)

/-- What the registers of a bank hold after a block load: the words of memory, the base, or what they held; the registers of no
number of the bank are untouched. -/
def BlockLoadedFrom (at' : Nat → Word) (f : Block) (bank : Mode) (s : State) (regs : RegFile) : Prop :=
  (∀ r : Reg, r ≠ 15#4 → ∀ p, phys bank r = some p →
    regs.get p =
      if inList f.list r then s.mem.word s.env.params.bigend (at' (rank f.list r))
      else if f.w = true ∧ r = f.rn then f.newBase s
      else s.regs.get p) ∧
  (∀ p, (∀ r, phys bank r ≠ some p) → regs.get p = s.regs.get p)

/-- As `BlockLoadedFrom` with the words at the addresses of the transfer. -/
def BlockLoaded (f : Block) (bank : Mode) (s : State) (regs : RegFile) : Prop := BlockLoadedFrom (f.addr s) f bank s regs

/-- The base register after a block transfer. -/
def Block.baseRegs (f : Block) (s : State) : RegFile := if f.w then (s.setReg f.rn (f.newBase s)).regs else s.regs

/-! ## Other tables -/

/-- The Thumb conditional branches: condition and offset (rules R455 to R469). -/
def thumbCond : Instr → Option (Cond × BitVec 8)
  | .tBeq off => some (.eq, off)
  | .tBne off => some (.ne, off)
  | .tBcs off => some (.cs, off)
  | .tBcc off => some (.cc, off)
  | .tBmi off => some (.mi, off)
  | .tBpl off => some (.pl, off)
  | .tBvs off => some (.vs, off)
  | .tBvc off => some (.vc, off)
  | .tBhi off => some (.hi, off)
  | .tBls off => some (.ls, off)
  | .tBge off => some (.ge, off)
  | .tBlt off => some (.lt, off)
  | .tBgt off => some (.gt, off)
  | .tBle off => some (.le, off)
  | _ => none

/-- The coprocessor instructions as they are offered (rules R326 and R330 to R334), with the privilege of their fetch. -/
def copForm (s : State) : Instr → Option CopOffer
  | .cdp _ op1 crn crd n op2 crm => some ⟨.cdp, n, op1, op2, crn, crd, crm, false, s.fetchPriv⟩
  | .ldc _ _ _ l _ _ crd n _ => some ⟨.ldc, n, 0, 0, 0, crd, 0, l, s.fetchPriv⟩
  | .stc _ _ _ l _ _ crd n _ => some ⟨.stc, n, 0, 0, 0, crd, 0, l, s.fetchPriv⟩
  | .mcr _ op1 crn _ n op2 crm => some ⟨.mcr, n, op1.setWidth 4, op2, crn, 0, crm, false, s.fetchPriv⟩
  | .mrc _ op1 crn _ n op2 crm => some ⟨.mrc, n, op1.setWidth 4, op2, crn, 0, crm, false, s.fetchPriv⟩
  | _ => none

/-- The coprocessor that answers an offer accepts it by a rule. -/
abbrev Accepts (s : State) (o : CopOffer) (c : CopPort) (r : CopRule) : Prop :=
  s.env.responder o = some c ∧ c.answer o = .present r

/-- The banked registers an instruction reads, where it reads them (rule R620): the register fields of each form; a low register of
Thumb state is none. Coprocessor instructions read theirs once a coprocessor has accepted. -/
def readsOf (s : State) : Instr → List Reg
  | .mul _ _ _ _ rs rm => [rm, rs]
  | .mla _ _ _ rn rs rm => [rm, rs, rn]
  | .umull _ _ _ _ rs rm => [rm, rs]
  | .smull _ _ _ _ rs rm => [rm, rs]
  | .umlal _ _ rdHi rdLo rs rm => [rm, rs, rdHi, rdLo]
  | .smlal _ _ rdHi rdLo rs rm => [rm, rs, rdHi, rdLo]
  | .swp _ rn _ rm => [rn, rm]
  | .swpb _ rn _ rm => [rn, rm]
  | .msrReg _ _ _ rm => [rm]
  | .bx _ rm => [rm]
  | .ldc _ _ _ _ _ rn _ _ _ => [rn]
  | .stc _ _ _ _ _ rn _ _ _ => [rn]
  | .mcr _ _ _ rd _ _ _ => [rd]
  | .tAddHi rd rs => [rd, rs]
  | .tCmpHi rd rs => [rd, rs]
  | .tMovHi _ rs => [rs]
  | .tBx rs => [rs]
  | .tBlLo _ => [14#4]
  | .tAddSp _ _ => [13#4]
  | .tIncSp _ => [13#4]
  | .tDecSp _ => [13#4]
  | .andImm _ _ rn _ _ _ => [rn]
  | .andShi _ _ rn _ _ _ rm => [rn, rm]
  | .andShr _ _ rn _ rs _ rm => [rn, rs, rm]
  | .eorImm _ _ rn _ _ _ => [rn]
  | .eorShi _ _ rn _ _ _ rm => [rn, rm]
  | .eorShr _ _ rn _ rs _ rm => [rn, rs, rm]
  | .subImm _ _ rn _ _ _ => [rn]
  | .subShi _ _ rn _ _ _ rm => [rn, rm]
  | .subShr _ _ rn _ rs _ rm => [rn, rs, rm]
  | .rsbImm _ _ rn _ _ _ => [rn]
  | .rsbShi _ _ rn _ _ _ rm => [rn, rm]
  | .rsbShr _ _ rn _ rs _ rm => [rn, rs, rm]
  | .addImm _ _ rn _ _ _ => [rn]
  | .addShi _ _ rn _ _ _ rm => [rn, rm]
  | .addShr _ _ rn _ rs _ rm => [rn, rs, rm]
  | .adcImm _ _ rn _ _ _ => [rn]
  | .adcShi _ _ rn _ _ _ rm => [rn, rm]
  | .adcShr _ _ rn _ rs _ rm => [rn, rs, rm]
  | .sbcImm _ _ rn _ _ _ => [rn]
  | .sbcShi _ _ rn _ _ _ rm => [rn, rm]
  | .sbcShr _ _ rn _ rs _ rm => [rn, rs, rm]
  | .rscImm _ _ rn _ _ _ => [rn]
  | .rscShi _ _ rn _ _ _ rm => [rn, rm]
  | .rscShr _ _ rn _ rs _ rm => [rn, rs, rm]
  | .tstImm _ rn _ _ _ => [rn]
  | .tstShi _ rn _ _ _ rm => [rn, rm]
  | .tstShr _ rn _ rs _ rm => [rn, rs, rm]
  | .teqImm _ rn _ _ _ => [rn]
  | .teqShi _ rn _ _ _ rm => [rn, rm]
  | .teqShr _ rn _ rs _ rm => [rn, rs, rm]
  | .cmpImm _ rn _ _ _ => [rn]
  | .cmpShi _ rn _ _ _ rm => [rn, rm]
  | .cmpShr _ rn _ rs _ rm => [rn, rs, rm]
  | .cmnImm _ rn _ _ _ => [rn]
  | .cmnShi _ rn _ _ _ rm => [rn, rm]
  | .cmnShr _ rn _ rs _ rm => [rn, rs, rm]
  | .orrImm _ _ rn _ _ _ => [rn]
  | .orrShi _ _ rn _ _ _ rm => [rn, rm]
  | .orrShr _ _ rn _ rs _ rm => [rn, rs, rm]
  | .movImm _ _ rn _ _ _ => [rn]
  | .movShi _ _ rn _ _ _ rm => [rn, rm]
  | .movShr _ _ rn _ rs _ rm => [rn, rs, rm]
  | .bicImm _ _ rn _ _ _ => [rn]
  | .bicShi _ _ rn _ _ _ rm => [rn, rm]
  | .bicShr _ _ rn _ rs _ rm => [rn, rs, rm]
  | .mvnImm _ _ rn _ _ _ => [rn]
  | .mvnShi _ _ rn _ _ _ rm => [rn, rm]
  | .mvnShr _ _ rn _ rs _ rm => [rn, rs, rm]
  | i =>
    match loadForm s i, storeForm s i, loadBlock i, storeBlock s.mode i with
    | some f, _, _, _ => f.reads
    | _, some f, _, _ => f.reads
    | _, _, some f, _ => f.reads
    | _, _, _, some f => f.reads
    | _, _, _, _ => []

/-- A write of `v` under a field mask has the reserved bits `r`: in each selected field of rule R205. -/
abbrev HasReserved (mask : BitVec 4) (v : Word) (r : BitVec 20) : Prop :=
  (mask.getLsbD 3 = true → v.extractLsb' 24 4 = r.extractLsb' 16 4) ∧
  (mask.getLsbD 2 = true → v.extractLsb' 16 8 = r.extractLsb' 8 8) ∧
  (mask.getLsbD 1 = true → v.extractLsb' 8 8 = r.extractLsb' 0 8)

/-- A write of `v` under a field mask keeps the reserved bits last read, if any were read (decision D13). -/
abbrev KeepsReserved (mask : BitVec 4) (v : Word) (last : Option (BitVec 20)) : Prop :=
  last.all (fun r => decide (HasReserved mask v r)) = true

/-- The field mask that counts for the CPSR: in User mode, outside debug state, only the flag field (rules R204 and R556). -/
def cpsrMask (s : State) (mask : BitVec 4) : BitVec 4 := if s.isPriv || s.dbg.inDebug then mask else mask &&& 0b1000#4

/-- A status register after a write of `v`: the flags with field f, I, F, T and the mode with field c, the reserved bits of the
selected fields. -/
def written (p : Psr) (mask : BitVec 4) (v : Word) : Psr :=
  let f := mask.getLsbD 3
  let c := mask.getLsbD 0
  { n := if f then v.getLsbD 31 else p.n, z := if f then v.getLsbD 30 else p.z, c := if f then v.getLsbD 29 else p.c,
    v := if f then v.getLsbD 28 else p.v
    reserved :=
      (if f then v.extractLsb' 24 4 else p.reserved.extractLsb' 16 4) ++
        (if mask.getLsbD 2 then v.extractLsb' 16 8 else p.reserved.extractLsb' 8 8) ++
        (if mask.getLsbD 1 then v.extractLsb' 8 8 else p.reserved.extractLsb' 0 8)
    i := if c then v.getLsbD 7 else p.i
    f := if c then v.getLsbD 6 else p.f
    t := if c then v.getLsbD 5 else p.t
    m := if c then v.extractLsb' 0 5 else p.m }

/-- MSR of a register or of an immediate: whether to the SPSR, the field mask, the registers read, the value. -/
def msrForm (s : State) : Instr → Option (Bool × BitVec 4 × List Reg × Word)
  | .msrReg _ r mask rm => some (r, mask, [rm], s.reg rm)
  | .msrImm _ r mask rot imm => some (r, mask, [], (immediateOperand s.cpsr.c rot imm).value)
  | _ => none

/-- Fetching finds memory and does not abort. -/
abbrev Fetchable (s : State) : Prop :=
  s.env.aborting s.pc.toNat s.fetchSize .fetch s.fetchPriv = false ∧
    (s.env.region s.pc.toNat = some .storage ∨ s.env.region s.pc.toNat = some .readOnly)

/-- The core is about to go on: no event is scripted, it is not in debug state, its mode is legal, no interrupt is taken. -/
abbrev AtBoundary (s : State) : Prop :=
  s.script = [] ∧ s.dbg.inDebug = false ∧ Mode.ofBits s.cpsr.m ≠ none ∧
    (s.env.pins.nFiq = true ∨ s.cpsr.f = true ∨ s.ifen = false) ∧ (s.env.pins.nIrq = true ∨ s.cpsr.i = true ∨ s.ifen = false)

/-- The core is about to fetch and execute an instruction: as `AtBoundary`, and no coprocessor instruction waits. -/
abbrev AtInstruction (s : State) : Prop := AtBoundary s ∧ s.waiting = none

/-- The state in which the instruction at the program counter executes: the records of the step hold the fetch alone. -/
def fetched (s : State) : State :=
  { s with
    bus := [s.access s.pc s.fetchSize .fetch s.fetchPriv false (s.mem.word s.env.params.bigend (Size.word.align s.pc)) false false]
    cop := []
    ranges := []
    dbg := { s.dbg with entered := false } }

end Sys2Proof.Claims

open Sys2Proof Sys2Proof.Machine Sys2Proof.Claims

/-! ## Encodings -/

/-- Words written out from the spec's examples decode to their instructions. -/
def Obligations.ExampleWordsDecode : Prop :=
  decode false 0xE0802000#32 = .ok (.addShi .al false 0#4 2#4 0#5 .lsl 0#4) ∧
  decode false 0xE1826001#32 = .ok (.orrShi .al false 2#4 6#4 0#5 .lsl 1#4) ∧
  decode false 0xEAFFFFF9#32 = .ok (.b .al 0xFFFFF9#24) ∧
  decode false 0xE0000291#32 = .ok (.mul .al false 0#4 0#4 2#4 1#4) ∧
  decode false 0xE880FFFF#32 = .ok (.stmia .al false false 0#4 0xFFFF#16) ∧
  decode false 0xE1020091#32 = .ok (.swp .al 2#4 0#4 1#4) ∧
  decode false 0xEF123456#32 = .ok (.swi .al 0x123456#24) ∧
  decode false 0xEE100E10#32 = .ok (.mrc .al 0#3 0#4 0#4 14#4 0#3 0#4) ∧
  decode false 0xE7F000F0#32 = .ok (.undefined .al 0xF8007#20 0#4) ∧
  decode true 0x4700#32 = .ok (.tBx 0#4) ∧
  decode true 0x4440#32 = .ok (.tAddHi 0#4 8#4) ∧
  decode true 0x46C0#32 = .ok (.tMovHi 8#4 8#4)

/-- DECODE AND ENCODE AGREE: for every well-formed instruction, with every operand at every value, decoding its code gives the
instruction back. -/
def Obligations.EncodeThenDecode : Prop :=
  ∀ i : Instr, WellFormed i → (encode i).decode = .ok i

/-- No bit of a word is dropped by the decoder: the instruction that an ARM word or a Thumb halfword decodes to has it as its code. -/
def Obligations.DecodeThenEncode : Prop :=
  (∀ n : Nat, n < 2^32 → ∀ i, decodeArm n = .ok i → encode i = .arm n) ∧
  (∀ n : Nat, n < 2^16 → ∀ i, decodeThumb n = .ok i → encode i = .thumb n)

/-! ## The step -/

/-- A STEP RUNS THE DECODED INSTRUCTION: with the debug logic disabled, a step at an instruction boundary is the instruction's own
effect, and around it there is nothing but the record of the fetch; a coprocessor instruction that waits for a busy coprocessor is
not fetched again. -/
def Obligations.StepRunsTheDecodedInstruction : Prop :=
  ∀ (s : State) (i : Instr), AtBoundary s → s.env.params.dbgen = false →
    (s.waiting = none → Fetchable s → decode s.cpsr.t (s.mem.value s.env.params.bigend s.fetchSize s.pc) = .ok i →
      step s = exec i (fetched s)) ∧
    (s.waiting = some i → step s = exec i { s with bus := [], cop := [], ranges := [], dbg := { s.dbg with entered := false } })

/-- With the debug logic enabled, the fetch is compared first and, where it triggers nothing, the instruction executes and its own
accesses are compared after it. The order of these comparisons is the model's choice (log entry 31): the spec has every bus cycle
compared, and the fetch of an instruction here is made when it executes. -/
def Obligations.StepRunsUnderTheDebugLogic : Prop :=
  ∀ (s t : State) (i : Instr), AtInstruction s → s.dbg.watchHit = false → s.dbgrqi = false → Fetchable s →
    decode s.cpsr.t (s.mem.value s.env.params.bigend s.fetchSize s.pc) = .ok i →
    State.observeAll (fetched s).bus (fetched s) = (false, t) →
    step s = match exec i t with
      | .next u => .next (u.watched t)
      | .fault f => .fault f
      | .refused r => .refused r

/-- The invariant holds right after reset. -/
def Obligations.InvariantAtReset : Prop := State.reset.Inv

/-- EVERY STEP KEEPS THE INVARIANT: from every state with canonical memory and an aligned program counter, a step that answers a next
state answers one with canonical memory and an aligned program counter, whatever the event, the instruction or the exception. -/
def Obligations.StepKeepsTheInvariant : Prop :=
  ∀ s t : State, s.Inv → step s = .next t → t.Inv

/-- With DBGEN LOW no step enters debug state. -/
def Obligations.NoDebugStateWithDbgenLow : Prop :=
  ∀ s t : State, s.env.params.dbgen = false → s.dbg.inDebug = false → step s = .next t → t.dbg.inDebug = false

/-- From User mode a step of the core leads to User mode or into an exception: to its mode, its vector, ARM state and I set. -/
def Obligations.UserModeIsLeftOnlyByAnException : Prop :=
  ∀ s t : State, s.cpsr.m = 0b10000#5 → s.dbg.inDebug = false → s.script = [] → step s = .next t →
    t.cpsr.m = 0b10000#5 ∨
      ∃ e : Exc, t.cpsr.m = e.mode.bits ∧ t.pc = e.vector ∧ t.cpsr.t = false ∧ t.cpsr.i = true

/-- In User mode no instruction that stays in User mode writes a saved status register, a banked register of another mode, or a
control bit of the CPSR other than T (which BX writes). -/
def Obligations.UserModeCannotTouchPrivilegedState : Prop :=
  ∀ (i : Instr) (s t : State), s.cpsr.m = 0b10000#5 → s.dbg.inDebug = false → exec i s = .next t → t.cpsr.m = 0b10000#5 →
    t.cpsr.i = s.cpsr.i ∧ t.cpsr.f = s.cpsr.f ∧ t.spsr = s.spsr ∧
      ∀ p, (∀ r, phys .usr r ≠ some p) → t.regs.get p = s.regs.get p

/-! ## Reset and the registers -/

/-- What reset leaves: at power-on and of a running machine the program counter 0, Supervisor mode, ARM state, both interrupts disabled
and debug state left; of a running machine memory, the TAP, the EmbeddedICE registers, the communications channel and the environment
stay as they were (log entries 4 and 40), but for the coprocessors, each of which resets its own state. -/
def Obligations.ResetState : Prop :=
  (State.reset.pc = 0#32 ∧ State.reset.cpsr.m = 0b10011#5 ∧ State.reset.cpsr.i = true ∧ State.reset.cpsr.f = true ∧
    State.reset.cpsr.t = false) ∧
  ∀ (s : State) (cycles : Nat), 2 ≤ cycles → ∃ t, s.resetEvent cycles none = .next t ∧
    t.pc = 0#32 ∧ t.cpsr.m = 0b10011#5 ∧ t.cpsr.i = true ∧ t.cpsr.f = true ∧ t.cpsr.t = false ∧ t.dbg = Dbg.reset ∧
    t.mem = s.mem ∧ t.tap = s.tap ∧ t.ice = s.ice ∧ t.dcc = s.dcc ∧
    t.env = { s.env with coprocs := s.env.coprocs.map (fun p =>
      { p with state := p.atReset.state, bank := p.atReset.bank, waits := p.atReset.waits }) } ∧ t.script = s.script

/-- Which physical register a number names in each mode, r15 being the program counter as the reader sees it, and which mode has
which SPSR. -/
def Obligations.RegisterBanks : Prop :=
  ∀ (m : Mode) (n : Reg) (s : State) (pcv : Word),
    (s.regView m pcv n = match phys m n with
      | some p => s.regs.get p
      | none => pcv) ∧
    phys m 0#4 = some .r0 ∧ phys m 1#4 = some .r1 ∧ phys m 2#4 = some .r2 ∧ phys m 3#4 = some .r3 ∧ phys m 4#4 = some .r4 ∧
    phys m 5#4 = some .r5 ∧ phys m 6#4 = some .r6 ∧ phys m 7#4 = some .r7 ∧
    (m ≠ .fiq → phys m 8#4 = some .r8 ∧ phys m 9#4 = some .r9 ∧ phys m 10#4 = some .r10 ∧ phys m 11#4 = some .r11 ∧
      phys m 12#4 = some .r12) ∧
    (m = .fiq → phys m 8#4 = some .r8Fiq ∧ phys m 9#4 = some .r9Fiq ∧ phys m 10#4 = some .r10Fiq ∧ phys m 11#4 = some .r11Fiq ∧
      phys m 12#4 = some .r12Fiq) ∧
    phys m 13#4 = (match m with
      | .usr => some .r13 | .sys => some .r13 | .fiq => some .r13Fiq | .irq => some .r13Irq | .svc => some .r13Svc
      | .abt => some .r13Abt | .und => some .r13Und) ∧
    phys m 14#4 = (match m with
      | .usr => some .r14 | .sys => some .r14 | .fiq => some .r14Fiq | .irq => some .r14Irq | .svc => some .r14Svc
      | .abt => some .r14Abt | .und => some .r14Und) ∧
    phys m 15#4 = none ∧
    (∀ (p q : PhysReg) (v : Word), (s.regs.set p v).get q = if q = p then v else s.regs.get q) ∧
    s.spsr.get m = (match m with
      | .usr => none | .sys => none | .fiq => some s.spsr.fiq | .irq => some s.spsr.irq | .svc => some s.spsr.svc
      | .abt => some s.spsr.abt | .und => some s.spsr.und)

/-- How a word and a halfword consist of bytes in both byte orders. -/
def Obligations.MemoryViews : Prop :=
  ∀ (m : Memory) (a : Word),
    (m.word false a).toNat =
      (m.byte a).toNat + 2^8 * (m.byte (a + 1)).toNat + 2^16 * (m.byte (a + 2)).toNat + 2^24 * (m.byte (a + 3)).toNat ∧
    (m.word true a).toNat =
      2^24 * (m.byte a).toNat + 2^16 * (m.byte (a + 1)).toNat + 2^8 * (m.byte (a + 2)).toNat + (m.byte (a + 3)).toNat ∧
    (m.half false a).toNat = (m.byte a).toNat + 2^8 * (m.byte (a + 1)).toNat ∧
    (m.half true a).toNat = 2^8 * (m.byte a).toNat + (m.byte (a + 1)).toNat

/-- The model's own canonical form of memory: two canonical memories with equal bytes are equal data, so that a statement about every
byte is a statement about memory. -/
def Obligations.CanonicalMemoriesAreEqual : Prop :=
  ∀ m m' : Memory, m.wf = true → m'.wf = true → (∀ a : Word, m.byte a = m'.byte a) → m = m'

/-! ## Conditions and operand restrictions -/

/-- The fifteen conditions by their codes; and an instruction whose condition fails does nothing but advance: every conditional ARM
and Thumb instruction. -/
def Obligations.ConditionalExecution : Prop :=
  (∀ p : Psr,
    conditionPassed p (Cond.ofCode 0) = p.z ∧ conditionPassed p (Cond.ofCode 1) = !p.z ∧
    conditionPassed p (Cond.ofCode 2) = p.c ∧ conditionPassed p (Cond.ofCode 3) = !p.c ∧
    conditionPassed p (Cond.ofCode 4) = p.n ∧ conditionPassed p (Cond.ofCode 5) = !p.n ∧
    conditionPassed p (Cond.ofCode 6) = p.v ∧ conditionPassed p (Cond.ofCode 7) = !p.v ∧
    conditionPassed p (Cond.ofCode 8) = (p.c && !p.z) ∧ conditionPassed p (Cond.ofCode 9) = (!p.c || p.z) ∧
    conditionPassed p (Cond.ofCode 10) = (p.n == p.v) ∧ conditionPassed p (Cond.ofCode 11) = (p.n != p.v) ∧
    conditionPassed p (Cond.ofCode 12) = (!p.z && (p.n == p.v)) ∧ conditionPassed p (Cond.ofCode 13) = (p.z || (p.n != p.v)) ∧
    conditionPassed p (Cond.ofCode 14) = true) ∧
  ∀ (i : Instr) (c : Cond) (s : State), i.cond? = some c → c ≠ .nv → conditionPassed s.cpsr c = false →
    Mode.ofBits s.cpsr.m ≠ none → Room s → exec i s = .next { s.begun with pc := s.pc + s.len }

/-- What is no instruction is refused by name in a legal mode: an ARM instruction with condition 1111; once its condition has passed,
an instruction with an operand combination that breaks a restriction (LDC, STC and MCR first shake hands); and bits that are the code
of no instruction, the undefined ones included among the instructions. -/
def Obligations.IllFormedInstructionsAreRefused : Prop :=
  (∀ (i : Instr) (s : State), i.cond? = some .nv → isThumb i = false → Mode.ofBits s.cpsr.m ≠ none →
    exec i s = .refused .condNever) ∧
  (∀ (i : Instr) (r : Restriction) (s : State), i.violation = some (.operands r) → copForm s i = none →
    Mode.ofBits s.cpsr.m ≠ none → conditionPassed s.cpsr (i.cond?.getD .al) = true → exec i s = .refused (.operands r)) ∧
  (∀ s : State, AtInstruction s → s.env.params.dbgen = false → Fetchable s →
    let bits := (s.mem.value s.env.params.bigend s.fetchSize s.pc).toNat
    (∀ i : Instr, encode i ≠ if s.cpsr.t then .thumb bits else .arm bits) →
    ∃ e, step s = .refused (.notAnInstruction e))

/-- After a User-bank LDM, outside User and System mode, every instruction that reads one of r8 to r14 is refused; a coprocessor
instruction where it reads it, once a coprocessor other than 14 has accepted. -/
def Obligations.UserBankHazardIsRefused : Prop :=
  ∀ (i : Instr) (s : State), s.cpsr.t = isThumb i → i.violation = none → conditionPassed s.cpsr (i.cond?.getD .al) = true →
    Mode.ofBits s.cpsr.m ≠ none → s.usrLdm = true → s.cpsr.m ≠ 0b10000#5 → s.cpsr.m ≠ 0b11111#5 →
    (∃ r ∈ readsOf s i, 8 ≤ r.toNat ∧ r.toNat ≤ 14) →
    (∀ o, copForm s i = some o → o.number ≠ 14#4 ∧ ∃ c r, Accepts s o c r) →
    exec i s = .refused .userBankHazard

/-- Two stops at the program counter. A store whose access is into the two slots after it is refused: single stores, STM, PUSH and
STMIA, SWP. And an instruction that would go on past the top of the address space is refused: one whose condition fails, data
processing with a destination other than r15, the Thumb data processing instructions, loads and stores. -/
def Obligations.CodeWindowAndTopOfMemoryAreRefused : Prop :=
  (∀ (i : Instr) (f : Single Size) (s : State), storeForm s i = some f → Runs i f.reads s → s.dbg.feed = none →
    s.dbg.inDebug = false → f.kind.aligned f.tr.addr = true →
    s.env.aborting f.tr.addr.toNat f.kind .write (s.isPriv && !f.user) = false →
    (∃ k < f.kind.bytes, (f.tr.addr + BitVec.ofNat 32 k - (s.pc + s.len)).toNat < 2 * s.len.toNat) →
    exec i s = .refused .codeWindow) ∧
  (∀ (i : Instr) (f : Block) (s : State), storeBlock s.mode i = some f → Runs i f.reads s → s.dbg.feed = none →
    s.dbg.inDebug = false → Size.word.aligned (f.start s) = true →
    (∃ j < count f.list, s.env.aborting (f.addr s j).toNat .word .write s.isPriv = false ∧
      ∃ k < 4, (f.addr s j + BitVec.ofNat 32 k - (s.pc + s.len)).toNat < 2 * s.len.toNat) →
    exec i s = .refused .codeWindow) ∧
  (∀ (cond : Cond) (byte : Bool) (rn rd rm : Reg) (s : State),
    let i : Instr := if byte then .swpb cond rn rd rm else .swp cond rn rd rm
    let z : Size := if byte then .byte else .word
    Runs i [rn, rm] s → s.dbg.feed = none → s.dbg.inDebug = false → z.aligned (s.reg rn) = true →
    s.env.aborting (s.reg rn).toNat z .read s.isPriv = false → s.env.aborting (s.reg rn).toNat z .write s.isPriv = false →
    (∃ k < z.bytes, (s.reg rn + BitVec.ofNat 32 k - (s.pc + s.len)).toNat < 2 * s.len.toNat) →
    exec i s = .refused .codeWindow) ∧
  (∀ s : State, s.dbg.inDebug = false → 2^32 ≤ s.pc.toNat + s.len.toNat →
    (∀ (i : Instr) (c : Cond), i.cond? = some c → c ≠ .nv → conditionPassed s.cpsr c = false → Mode.ofBits s.cpsr.m ≠ none →
      exec i s = .refused .addressWrap) ∧
    (∀ (o : Operand2) (op : DpOp) (cond : Cond) (sf : Bool) (rn rd : Reg),
      Runs (o.instr op cond sf rn rd) (o.reads rn) s → rd ≠ 15#4 → exec (o.instr op cond sf rn rd) s = .refused .addressWrap) ∧
    (∀ (i : Instr) (f : AluForm), thumbAluForm s i = some f → Runs i f.reads s → exec i s = .refused .addressWrap) ∧
    (∀ (i : Instr) (f : Single LoadKind), loadForm s i = some f → Runs i f.reads s → f.rd ≠ 15#4 →
      f.kind.size.aligned f.tr.addr = true → Readable s f.tr.addr f.kind.size (s.isPriv && !f.user) →
      exec i s = .refused .addressWrap) ∧
    (∀ (i : Instr) (f : Single Size), storeForm s i = some f → Runs i f.reads s → f.kind.aligned f.tr.addr = true →
      Writable s f.tr.addr f.kind (s.isPriv && !f.user) → exec i s = .refused .addressWrap))

/-! ## Data processing -/

/-- The immediate operand. -/
def Obligations.ImmediateOperand : Prop :=
  ∀ (c : Bool) (rot : BitVec 4) (imm : BitVec 8),
    let r := immediateOperand c rot imm
    r.value.toNat = (imm.toNat / 2^(2 * rot.toNat) + imm.toNat * 2^(32 - 2 * rot.toNat)) % 2^32 ∧
      r.carry = if rot = 0 then c else r.value.getLsbD 31

/-- A shift by an amount n of 1 or more, in exact arithmetic: LSL multiplies and keeps the low 32 bits, LSR and ASR divide, ROR
rotates; the carry is the last bit shifted out. -/
def Obligations.ShiftByRegister : Prop :=
  ∀ (c : Bool) (sh : ShiftType) (m : Word) (n : Nat),
    let r := shiftByRegister c sh m n
    (n = 0 → r.value = m ∧ r.carry = c) ∧
    (1 ≤ n → match sh with
      | .lsl => r.value.toNat = m.toNat * 2^n % 2^32 ∧ r.carry = decide (m.toNat * 2^n / 2^32 % 2 = 1)
      | .lsr => r.value.toNat = m.toNat / 2^n ∧ r.carry = decide (m.toNat / 2^(n - 1) % 2 = 1)
      | .asr => r.value.toInt = m.toInt / 2^n ∧ r.carry = decide (m.toInt / 2^(n - 1) % 2 = 1)
      | .ror =>
        r.value.toNat = (m.toNat / 2^(n % 32) + m.toNat * 2^(32 - n % 32)) % 2^32 ∧ r.carry = r.value.getLsbD 31)

/-- A shift by an immediate amount, in exact arithmetic: LSL 0 shifts nothing, LSR 0 and ASR 0 mean 32, ROR 0 is the rotate by one
through the carry; the carry is the last bit shifted out. -/
def Obligations.ShiftByImmediate : Prop :=
  ∀ (c : Bool) (m : Word) (n : Nat), n < 32 →
    let k := if n = 0 then 32 else n
    let lsl := shiftByImmediate c .lsl m n
    let lsr := shiftByImmediate c .lsr m n
    let asr := shiftByImmediate c .asr m n
    let ror := shiftByImmediate c .ror m n
    (lsl.value.toNat = m.toNat * 2^n % 2^32 ∧ lsl.carry = if n = 0 then c else m.getLsbD (32 - n)) ∧
    (lsr.value.toNat = m.toNat / 2^k ∧ lsr.carry = m.getLsbD (k - 1)) ∧
    (asr.value.toInt = m.toInt / 2^k ∧ asr.carry = m.getLsbD (k - 1)) ∧
    (n ≠ 0 → ror.value.toNat = (m.toNat / 2^n + m.toNat * 2^(32 - n)) % 2^32 ∧ ror.carry = m.getLsbD (n - 1)) ∧
    (n = 0 → ror.value.toNat = 2^31 * bit c + m.toNat / 2 ∧ ror.carry = m.getLsbD 0)

/-- The sixteen operations in their three operand forms, with a destination other than r15 or none: the result, the flags with S, and
nothing else. -/
def Obligations.DataProcessingResult : Prop :=
  ∀ (o : Operand2) (op : DpOp) (cond : Cond) (sf : Bool) (rn rd : Reg) (s : State),
    Runs (o.instr op cond sf rn rd) (o.reads rn) s → Room s → rd ≠ 15#4 →
    exec (o.instr op cond sf rn rd) s = .next (dpNext op sf rd (o.first s rn) (o.second s) s)

/-- A data processing result written to r15: without S a branch, with S the return from an exception, refused in a mode without
SPSR. -/
def Obligations.DataProcessingToPc : Prop :=
  ∀ (o : Operand2) (op : DpOp) (cond : Cond) (rn : Reg) (s : State), isTest op = false →
    let v := dpValue op (o.first s rn) (o.second s).value s.cpsr.c
    (Runs (o.instr op cond false rn 15#4) (o.reads rn) s →
      exec (o.instr op cond false rn 15#4) s =
        .next { s.begun with pc := v &&& 0xFFFFFFFC#32, fetchPriv := s.isPriv, nextFetchPriv := s.isPriv }) ∧
    (Runs (o.instr op cond true rn 15#4) (o.reads rn) s →
      exec (o.instr op cond true rn 15#4) s =
        match s.spsr.get s.mode with
        | some p =>
          .next { s.begun with
                  cpsr := p
                  pc := if p.t then v &&& 0xFFFFFFFE#32 else v &&& 0xFFFFFFFC#32
                  fetchPriv := decide (p.m ≠ 0b10000#5)
                  nextFetchPriv := decide (p.m ≠ 0b10000#5) }
        | none => .refused .noSpsr)

/-- The Thumb data processing instructions with flags. -/
def Obligations.ThumbAluResult : Prop :=
  ∀ (i : Instr) (f : AluForm) (s : State), thumbAluForm s i = some f → Runs i f.reads s → Room s →
    exec i s = .next (dpNext f.op true f.rd f.a f.b s)

/-- The Thumb instructions that write a register and no flag: ADD and MOV with high registers (to r15 a branch), ADD to the stack
pointer and from it and the PC. -/
def Obligations.ThumbRegisterResult : Prop :=
  ∀ s : State,
    let put (rd : Reg) (v : Word) : State := { s.begun with regs := (s.setReg rd v).regs, pc := s.pc + 2 }
    let jump (v : Word) : State :=
      { s.begun with pc := v &&& 0xFFFFFFFE#32, fetchPriv := s.isPriv, nextFetchPriv := s.isPriv }
    (∀ rd rs, Runs (.tAddHi rd rs) [rd, rs] s → rd ≠ 15#4 → Room s →
      exec (.tAddHi rd rs) s = .next (put rd (s.reg rd + s.reg rs))) ∧
    (∀ rs, Runs (.tAddHi 15#4 rs) [15#4, rs] s →
      exec (.tAddHi 15#4 rs) s = .next (jump (s.pc + 4 + s.reg rs))) ∧
    (∀ rd rs, Runs (.tMovHi rd rs) [rs] s → rd ≠ 15#4 → Room s → exec (.tMovHi rd rs) s = .next (put rd (s.reg rs))) ∧
    (∀ rs, Runs (.tMovHi 15#4 rs) [rs] s → exec (.tMovHi 15#4 rs) s = .next (jump (s.reg rs))) ∧
    (∀ rd off, Runs (.tAddPc rd off) [] s → Room s →
      exec (.tAddPc rd off) s = .next (put rd.reg (((s.pc + 4) &&& 0xFFFFFFFC#32) + 4 * off.setWidth 32))) ∧
    (∀ rd off, Runs (.tAddSp rd off) [13#4] s → Room s →
      exec (.tAddSp rd off) s = .next (put rd.reg (s.reg 13#4 + 4 * off.setWidth 32))) ∧
    (∀ off, Runs (.tIncSp off) [13#4] s → Room s →
      exec (.tIncSp off) s = .next (put 13#4 (s.reg 13#4 + 4 * off.setWidth 32))) ∧
    (∀ off, Runs (.tDecSp off) [13#4] s → Room s →
      exec (.tDecSp off) s = .next (put 13#4 (s.reg 13#4 - 4 * off.setWidth 32)))

/-! ## Multiplies -/

/-- MUL, MLA and the Thumb MUL: the low word of the product, N and Z with S, C then any value, V unchanged. -/
def Obligations.MultiplyResult : Prop :=
  ∀ (cond : Cond) (sf : Bool) (rd rn rs rm : Reg) (trd trs : LReg) (s : State), Room s →
    let done (rd : Reg) (sf : Bool) (p : Nat) : State :=
      { s.begun with
        regs := (s.setReg rd (BitVec.ofNat 32 p)).regs
        cpsr := if sf then { s.cpsr with n := decide (2^31 ≤ p % 2^32), z := decide (p % 2^32 = 0), c := s.freeBit } else s.cpsr
        free := if sf then s.free + 1 else s.free
        pc := s.pc + s.len }
    (Runs (.mul cond sf rd rn rs rm) [rm, rs] s →
      exec (.mul cond sf rd rn rs rm) s = .next (done rd sf ((s.reg rm).toNat * (s.reg rs).toNat))) ∧
    (Runs (.mla cond sf rd rn rs rm) [rm, rs, rn] s →
      exec (.mla cond sf rd rn rs rm) s = .next (done rd sf ((s.reg rm).toNat * (s.reg rs).toNat + (s.reg rn).toNat))) ∧
    (Runs (.tMul trd trs) [] s →
      exec (.tMul trd trs) s = .next (done trd.reg true ((s.reg trd.reg).toNat * (s.reg trs.reg).toNat)))

/-- The long multiplies: the 64-bit product or sum in RdHi and RdLo, N and Z of all 64 bits with S, C and V then any value. -/
def Obligations.LongMultiplyResult : Prop :=
  ∀ (cond : Cond) (sf : Bool) (rdHi rdLo rs rm : Reg) (s : State), Room s →
    let done (p : Int) : State :=
      { s.begun with
        regs := ((s.setReg rdLo (BitVec.ofInt 32 p)).setReg rdHi (BitVec.ofInt 32 (p / 2^32))).regs
        cpsr :=
          if sf then
            { s.cpsr with n := decide (2^63 ≤ p % 2^64), z := decide (p % 2^64 = 0), c := s.freeBit, v := s.drawn.freeBit }
          else s.cpsr
        free := if sf then s.free + 2 else s.free
        pc := s.pc + 4 }
    let acc : Int := (s.reg rdHi).toNat * 2^32 + (s.reg rdLo).toNat
    let u : Int := (s.reg rm).toNat * (s.reg rs).toNat
    let i : Int := (s.reg rm).toInt * (s.reg rs).toInt
    (Runs (.umull cond sf rdHi rdLo rs rm) [rm, rs] s → exec (.umull cond sf rdHi rdLo rs rm) s = .next (done u)) ∧
    (Runs (.umlal cond sf rdHi rdLo rs rm) [rm, rs, rdHi, rdLo] s →
      exec (.umlal cond sf rdHi rdLo rs rm) s = .next (done (u + acc))) ∧
    (Runs (.smull cond sf rdHi rdLo rs rm) [rm, rs] s → exec (.smull cond sf rdHi rdLo rs rm) s = .next (done i)) ∧
    (Runs (.smlal cond sf rdHi rdLo rs rm) [rm, rs, rdHi, rdLo] s →
      exec (.smlal cond sf rdHi rdLo rs rm) s = .next (done (i + acc)))

/-! ## Status registers -/

/-- MRS: Rd receives the status register, its reserved bits any value, which the model keeps as the reserved bits and as those last
read (log entry 9); the SPSR of User and System mode does not exist. -/
def Obligations.MrsResult : Prop :=
  ∀ (cond : Cond) (rd : Reg) (s : State),
    (Runs (.mrs cond false rd) [] s → Room s →
      let q : Psr := { s.cpsr with reserved := s.freeWord.setWidth 20 }
      exec (.mrs cond false rd) s =
        .next { s.begun with
                regs := (s.setReg rd q.toWord).regs, cpsr := q, psrRead := { s.psrRead with cpsr := some q.reserved },
                free := s.free + 1, pc := s.pc + 4 }) ∧
    (∀ p, s.spsr.get s.mode = some p → Runs (.mrs cond true rd) [] s → Room s →
      let q : Psr := { p with reserved := s.freeWord.setWidth 20 }
      exec (.mrs cond true rd) s =
        .next { s.begun with
                regs := (s.setReg rd q.toWord).regs, spsr := s.spsr.set s.mode q,
                psrRead := s.psrRead.setSpsr s.mode q.reserved, free := s.free + 1, pc := s.pc + 4 } ∧
      (s.psrRead.setSpsr s.mode q.reserved).spsr s.mode = some q.reserved) ∧
    (s.spsr.get s.mode = none → Runs (.mrs cond true rd) [] s → exec (.mrs cond true rd) s = .fault .noSpsr)

/-- The bits of a status register word. -/
def Obligations.StatusRegisterLayout : Prop :=
  ∀ p : Psr,
    p.toWord.getLsbD 31 = p.n ∧ p.toWord.getLsbD 30 = p.z ∧ p.toWord.getLsbD 29 = p.c ∧ p.toWord.getLsbD 28 = p.v ∧
    p.toWord.extractLsb' 8 20 = p.reserved ∧ p.toWord.getLsbD 7 = p.i ∧ p.toWord.getLsbD 6 = p.f ∧
    p.toWord.getLsbD 5 = p.t ∧ p.toWord.extractLsb' 0 5 = p.m ∧ Psr.ofWord p.toWord = p

/-- MSR from a register or an immediate. Of the CPSR, where it changes neither T nor the reserved bits last read: the flags with field f,
and in a privileged mode or in debug state I, F and the mode with field c; in User mode the control field stays. Of the SPSR, where it
changes no reserved bit last read: the fields the mask selects, T among them. -/
def Obligations.MsrResult : Prop :=
  ∀ (i : Instr) (mask : BitVec 4) (reads : List Reg) (v : Word) (s : State), Runs i reads s → Room s →
    (msrForm s i = some (false, mask, reads, v) → KeepsReserved (cpsrMask s mask) v s.psrRead.cpsr →
      ((cpsrMask s mask).getLsbD 0 = true → v.getLsbD 5 = s.cpsr.t) →
      exec i s = .next { s.begun with cpsr := written s.cpsr (cpsrMask s mask) v, pc := s.pc + 4 }) ∧
    (∀ p, msrForm s i = some (true, mask, reads, v) → s.spsr.get s.mode = some p →
      KeepsReserved mask v (s.psrRead.spsr s.mode) →
      exec i s = .next { s.begun with spsr := s.spsr.set s.mode (written p mask v), pc := s.pc + 4 })

/-- MSR of the CPSR that would change T is refused, and so is one of either status register that would change a reserved bit of a
selected field from the value last read, and one of the SPSR in a mode without SPSR. -/
def Obligations.MsrStops : Prop :=
  ∀ (i : Instr) (mask : BitVec 4) (reads : List Reg) (v : Word) (s : State), Runs i reads s →
    (msrForm s i = some (false, mask, reads, v) → (cpsrMask s mask).getLsbD 0 = true → v.getLsbD 5 ≠ s.cpsr.t →
      exec i s = .refused .stateBit) ∧
    (msrForm s i = some (false, mask, reads, v) → ((cpsrMask s mask).getLsbD 0 = true → v.getLsbD 5 = s.cpsr.t) →
      ¬ KeepsReserved (cpsrMask s mask) v s.psrRead.cpsr → exec i s = .refused .reservedBits) ∧
    (msrForm s i = some (true, mask, reads, v) → s.spsr.get s.mode ≠ none → ¬ KeepsReserved mask v (s.psrRead.spsr s.mode) →
      exec i s = .refused .reservedBits) ∧
    (msrForm s i = some (true, mask, reads, v) → s.spsr.get s.mode = none → exec i s = .refused .noSpsr)

/-! ## Branches -/

/-- B and BL of both states, the Thumb BL in its two halves; BX of both states, where bit 0 of the register is the new state and of the
CPSR only T changes. -/
def Obligations.BranchResult : Prop :=
  ∀ s : State,
    let jump (regs : RegFile) (pc : Word) : State :=
      { s.begun with regs := regs, pc := pc, fetchPriv := s.isPriv, nextFetchPriv := s.isPriv }
    (∀ cond off, Runs (.b cond off) [] s →
      exec (.b cond off) s = .next (jump s.regs ((s.pc + 8 + (off.signExtend 32 <<< 2)) &&& 0xFFFFFFFC#32))) ∧
    (∀ cond off, Runs (.bl cond off) [] s →
      exec (.bl cond off) s =
        .next (jump (s.setReg 14#4 (s.pc + 4)).regs ((s.pc + 8 + (off.signExtend 32 <<< 2)) &&& 0xFFFFFFFC#32))) ∧
    (∀ off, Runs (.tB off) [] s →
      exec (.tB off) s = .next (jump s.regs ((s.pc + 4 + (off.signExtend 32 <<< 1)) &&& 0xFFFFFFFE#32))) ∧
    (∀ off, Runs (.tBlHi off) [] s → Room s →
      exec (.tBlHi off) s =
        .next { s.begun with regs := (s.setReg 14#4 (s.pc + 4 + (off.signExtend 32 <<< 12))).regs, pc := s.pc + 2 }) ∧
    (∀ off, Runs (.tBlLo off) [14#4] s →
      exec (.tBlLo off) s =
        .next (jump (s.setReg 14#4 ((s.pc + 2) ||| 1#32)).regs
          ((s.reg 14#4 + (off.setWidth 32 <<< 1)) &&& 0xFFFFFFFE#32))) ∧
    (∀ (i : Instr) (r : Reg), ((∃ cond, i = .bx cond r) ∨ i = .tBx r) → Runs i [r] s →
      let v := s.reg r
      exec i s = .next
        { s.begun with
          cpsr := { s.cpsr with t := v.getLsbD 0 }
          pc := if v.getLsbD 0 then v &&& 0xFFFFFFFE#32 else v &&& 0xFFFFFFFC#32
          fetchPriv := s.isPriv
          nextFetchPriv := s.isPriv })

/-- The fourteen Thumb conditional branches: taken where the condition passes, else only the advance. -/
def Obligations.ThumbConditionalBranchResult : Prop :=
  ∀ (i : Instr) (c : Cond) (off : BitVec 8) (s : State), thumbCond i = some (c, off) → s.cpsr.t = true →
    Mode.ofBits s.cpsr.m ≠ none → (conditionPassed s.cpsr c = true ∨ Room s) →
    exec i s = .next
      (if conditionPassed s.cpsr c then
        { s.begun with pc := (s.pc + 4 + (off.signExtend 32 <<< 1)) &&& 0xFFFFFFFE#32, fetchPriv := s.isPriv,
                       nextFetchPriv := s.isPriv }
       else { s.begun with pc := s.pc + 2 })

/-! ## Single transfers and swap -/

/-- Every load into a register other than r15, from an aligned address of memory. -/
def Obligations.LoadResult : Prop :=
  ∀ (i : Instr) (f : Single LoadKind) (s : State), loadForm s i = some f → Runs i f.reads s → Room s → f.rd ≠ 15#4 →
    f.kind.size.aligned f.tr.addr = true → Readable s f.tr.addr f.kind.size (s.isPriv && !f.user) →
    exec i s = .next
      { s.begun with
        regs := ((baseRegs f s).setReg f.rd (loaded f.kind s.env.params.bigend s.mem f.tr.addr)).regs
        pc := s.pc + s.len
        bus := s.bus ++ [readAccess s f.tr.addr f.kind.size (s.isPriv && !f.user) false] }

/-- A load of r15 from an aligned address of memory is a branch. -/
def Obligations.LoadToPcResult : Prop :=
  ∀ (i : Instr) (f : Single LoadKind) (s : State), loadForm s i = some f → Runs i f.reads s → f.rd = 15#4 →
    f.kind.size.aligned f.tr.addr = true → Readable s f.tr.addr f.kind.size (s.isPriv && !f.user) →
    exec i s = .next
      { s.begun with
        regs := (baseRegs f s).regs
        pc := s.mem.word s.env.params.bigend f.tr.addr &&& 0xFFFFFFFC#32
        fetchPriv := s.isPriv
        nextFetchPriv := s.isPriv
        bus := s.bus ++ [readAccess s f.tr.addr .word (s.isPriv && !f.user) false] }

/-- Every store to an aligned address of storage: the stored bytes, the base, and nothing else. -/
def Obligations.StoreResult : Prop :=
  ∀ (i : Instr) (f : Single Size) (s : State), storeForm s i = some f → Runs i f.reads s → Room s → s.mem.wf = true →
    f.kind.aligned f.tr.addr = true → Writable s f.tr.addr f.kind (s.isPriv && !f.user) →
    ∃ m, exec i s = .next
        { s.begun with
          regs := (baseRegs f s).regs
          mem := m
          pc := s.pc + s.len
          bus := s.bus ++ [writeAccess s f.tr.addr f.kind (s.regAhead f.rd) (s.isPriv && !f.user) false] } ∧
      Stored s f.kind f.tr.addr (s.regAhead f.rd) m

/-- A Data Abort of a load, a store, a swap, LDC or STC: the base of a load or store is written back all the same, and with W that of LDC
and STC; no other register is written; memory is untouched but for the words of an STC whose accesses do not abort, which hold the words
the coprocessor gave; the exception is taken. What the coprocessor is told of the abort is the model's choice (log entry 25). -/
def Obligations.TransferDataAbort : Prop :=
  (∀ (i : Instr) (f : Single LoadKind) (s : State), loadForm s i = some f → Runs i f.reads s → s.dbg.feed = none →
    f.kind.size.aligned f.tr.addr = true → s.env.aborting f.tr.addr.toNat f.kind.size .read (s.isPriv && !f.user) = true →
    ∃ x, exec i s = .next
      (({ s.begun with regs := (baseRegs f s).regs, free := s.free + 1, bus := s.bus ++ [x] } : State).takeException .dabt)) ∧
  (∀ (i : Instr) (f : Single Size) (s : State), storeForm s i = some f → Runs i f.reads s → s.dbg.feed = none →
    f.kind.aligned f.tr.addr = true → s.env.aborting f.tr.addr.toNat f.kind .write (s.isPriv && !f.user) = true →
    ∃ x, exec i s = .next
      (({ s.begun with regs := (baseRegs f s).regs, bus := s.bus ++ [x] } : State).takeException .dabt)) ∧
  (∀ (cond : Cond) (byte : Bool) (rn rd rm : Reg) (s : State),
    let i : Instr := if byte then .swpb cond rn rd rm else .swp cond rn rd rm
    let z : Size := if byte then .byte else .word
    Runs i [rn, rm] s → s.dbg.feed = none → z.aligned (s.reg rn) = true →
    (s.env.aborting (s.reg rn).toNat z .read s.isPriv = true →
      ∃ x, exec i s = .next (({ s.begun with free := s.free + 1, bus := s.bus ++ [x] } : State).takeException .dabt)) ∧
    (Readable s (s.reg rn) z s.isPriv → s.env.aborting (s.reg rn).toNat z .write s.isPriv = true →
      ∃ x, exec i s = .next
        (({ s.begun with bus := s.bus ++ [readAccess s (s.reg rn) z s.isPriv true, x] } : State).takeException .dabt))) ∧
  (∀ (load : Bool) (cond : Cond) (p u l w : Bool) (rn : Reg) (crd n : BitVec 4) (off : BitVec 8) (o : CopOffer) (c : CopPort)
      (r : CopRule) (s : State),
    let i : Instr := if load then .ldc cond p u l w rn crd n off else .stc cond p u l w rn crd n off
    let t := transferOf p u w (s.reg rn) (4 * off.setWidth 32)
    let at' (k : Nat) : Word := t.addr + BitVec.ofNat 32 (4 * k)
    let words := if load then r.takesMore.length + 1 else r.givesMore.length + 1
    let kind : AccessKind := if load then .read else .write
    copForm s i = some o → n ≠ 14#4 → Accepts s o c r → Runs i [rn] s → s.dbg.feed = none → words ≤ 2^28 →
    Size.word.aligned t.addr = true → (∃ k < words, s.env.aborting (at' k).toNat .word kind s.isPriv = true) →
    (load = false → ∀ k < words, s.env.aborting (at' k).toNat .word .write s.isPriv = true ∨ Writable s (at' k) .word s.isPriv) →
    let ws := (r.gives :: r.givesMore).map c.source
    ∃ v : State, exec i s = .next (v.takeException .dabt) ∧
      v = { s.begun with regs := if w then (s.setReg rn t.newBase).regs else s.regs
                         mem := v.mem, env := v.env, cop := v.cop, bus := v.bus, free := v.free } ∧
      (load = true → v.mem = s.mem ∧ ∃ data, v.cop = s.cop ++ [⟨o, data, true⟩]) ∧
      (load = false →
        v.env = s.env.withResponder o (fun q => q.executed r [] true) ∧ v.cop = s.cop ++ [⟨o, ws, true⟩] ∧ v.free = s.free ∧
        (s.mem.wf = true →
          v.mem.wf = true ∧
          (∀ k < words,
            if s.env.aborting (at' k).toNat .word .write s.isPriv then
              ∀ j < 4, v.mem.byte (at' k + BitVec.ofNat 32 j) = s.mem.byte (at' k + BitVec.ofNat 32 j)
            else v.mem.word s.env.params.bigend (at' k) = ws.getD k 0) ∧
          ∀ b : Word, (∀ k < 4 * words, b ≠ t.addr + BitVec.ofNat 32 k) → v.mem.byte b = s.mem.byte b)))

/-- Misaligned transfers: a word is refused under the parameter's default setting, a halfword and a load of r15 under both. Under the
other setting a word load delivers the aligned word rotated right by eight times the offset, a store, LDM and STM ignore the low
address bits, and a swap reads as a load and writes as a store. -/
def Obligations.MisalignedTransfers : Prop :=
  (∀ (i : Instr) (f : Single LoadKind) (s : State), loadForm s i = some f → Runs i f.reads s →
    f.kind.size.aligned f.tr.addr = false → (s.env.params.misaligned = .refuse ∨ f.kind.size = .half ∨ f.rd = 15#4) →
    exec i s = .refused .misaligned) ∧
  (∀ (i : Instr) (f : Single Size) (s : State), storeForm s i = some f → Runs i f.reads s → s.dbg.feed = none →
    f.kind.aligned f.tr.addr = false → (s.env.params.misaligned = .refuse ∨ f.kind = .half) →
    exec i s = .refused .misaligned) ∧
  (∀ (i : Instr) (f : Block) (s : State), (loadBlock i = some f ∨ storeBlock s.mode i = some f) → Runs i f.reads s →
    s.dbg.feed = none → Size.word.aligned (f.start s) = false →
    (s.env.params.misaligned = .refuse ∨ loadBlock i = some f ∧ inList f.list 15#4 = true) → exec i s = .refused .misaligned) ∧
  (∀ (cond : Cond) (rn rd rm : Reg) (s : State), Runs (.swp cond rn rd rm) [rn, rm] s → Size.word.aligned (s.reg rn) = false →
    s.env.params.misaligned = .refuse → exec (.swp cond rn rd rm) s = .refused .misaligned) ∧
  (∀ (load : Bool) (cond : Cond) (p u l w : Bool) (rn : Reg) (crd n : BitVec 4) (off : BitVec 8) (o : CopOffer) (c : CopPort)
      (r : CopRule) (s : State),
    let i : Instr := if load then .ldc cond p u l w rn crd n off else .stc cond p u l w rn crd n off
    copForm s i = some o → n ≠ 14#4 → Accepts s o c r → Runs i [rn] s → s.dbg.feed = none →
    Size.word.aligned (transferOf p u w (s.reg rn) (4 * off.setWidth 32)).addr = false → s.env.params.misaligned = .refuse →
    exec i s = .refused .misaligned) ∧
  (∀ (i : Instr) (f : Single LoadKind) (s : State), loadForm s i = some f → Runs i f.reads s → Room s → f.rd ≠ 15#4 →
    f.kind = .word → s.env.params.misaligned = .armv4t →
    Readable s (f.tr.addr &&& 0xFFFFFFFC#32) .word (s.isPriv && !f.user) →
    ∃ t, exec i s = .next t ∧
      t.regs = ((baseRegs f s).setReg f.rd
        ((s.mem.word s.env.params.bigend (f.tr.addr &&& 0xFFFFFFFC#32)).rotateRight (8 * (f.tr.addr.toNat % 4)))).regs ∧
      t = { s.begun with regs := t.regs, pc := s.pc + s.len, bus := t.bus }) ∧
  (∀ (i : Instr) (f : Single Size) (s : State), storeForm s i = some f → Runs i f.reads s → Room s → s.mem.wf = true →
    f.kind = .word → s.env.params.misaligned = .armv4t →
    Writable s (f.tr.addr &&& 0xFFFFFFFC#32) .word (s.isPriv && !f.user) →
    ∃ t, exec i s = .next t ∧ Stored s .word (f.tr.addr &&& 0xFFFFFFFC#32) (s.regAhead f.rd) t.mem ∧
      t = { s.begun with regs := (baseRegs f s).regs, mem := t.mem, pc := s.pc + s.len, bus := t.bus }) ∧
  (∀ (i : Instr) (f : Block) (s : State), loadBlock i = some f → Runs i f.reads s → Room s → inList f.list 15#4 = false →
    s.env.params.misaligned = .armv4t → (∀ k < count f.list, Readable s (f.addr s k &&& 0xFFFFFFFC#32) .word s.isPriv) →
    ∃ t, exec i s = .next t ∧
      BlockLoadedFrom (fun k => f.addr s k &&& 0xFFFFFFFC#32) f (if f.sb then .usr else s.mode) s t.regs ∧
      t = { s.begun with regs := t.regs, pc := s.pc + s.len, usrLdm := f.sb, bus := t.bus }) ∧
  (∀ (i : Instr) (f : Block) (s : State), storeBlock s.mode i = some f → Runs i f.reads s → Room s → s.mem.wf = true →
    s.env.params.misaligned = .armv4t → (∀ k < count f.list, Writable s (f.addr s k &&& 0xFFFFFFFC#32) .word s.isPriv) →
    ∃ t, exec i s = .next t ∧ t.mem.wf = true ∧
      (∀ r : Reg, inList f.list r = true →
        t.mem.word s.env.params.bigend (f.addr s (rank f.list r) &&& 0xFFFFFFFC#32) =
          s.regView (if f.sb then .usr else s.mode) (s.pc + 12) r) ∧
      (∀ b : Word, (∀ k < 4 * count f.list, b ≠ (f.start s &&& 0xFFFFFFFC#32) + BitVec.ofNat 32 k) →
        t.mem.byte b = s.mem.byte b) ∧
      t = { s.begun with regs := f.baseRegs s, mem := t.mem, pc := s.pc + s.len, bus := t.bus }) ∧
  (∀ (cond : Cond) (rn rd rm : Reg) (s : State),
    let a := s.reg rn &&& 0xFFFFFFFC#32
    Runs (.swp cond rn rd rm) [rn, rm] s → Room s → s.mem.wf = true → s.env.params.misaligned = .armv4t →
    Readable s a .word s.isPriv → Writable s a .word s.isPriv →
    ∃ t, exec (.swp cond rn rd rm) s = .next t ∧ Stored s .word a (s.reg rm) t.mem ∧
      t = { s.begun with
            regs := (s.setReg rd ((s.mem.word s.env.params.bigend a).rotateRight (8 * ((s.reg rn).toNat % 4)))).regs
            mem := t.mem
            pc := s.pc + 4
            bus := t.bus })

/-- SWP and SWPB: one locked read and one locked write at the address; Rd receives what memory held, memory what Rm held. -/
def Obligations.SwapResult : Prop :=
  ∀ (cond : Cond) (byte : Bool) (rn rd rm : Reg) (s : State),
    let i : Instr := if byte then .swpb cond rn rd rm else .swp cond rn rd rm
    let z : Size := if byte then .byte else .word
    let a := s.reg rn
    Runs i [rn, rm] s → Room s → s.mem.wf = true → z.aligned a = true → Readable s a z s.isPriv → Writable s a z s.isPriv →
    ∃ m, exec i s = .next
        { s.begun with
          regs := (s.setReg rd (s.mem.value s.env.params.bigend z a)).regs
          mem := m
          pc := s.pc + 4
          bus := s.bus ++ [readAccess s a z s.isPriv true, writeAccess s a z (s.reg rm) s.isPriv true] } ∧
      Stored s z a (s.reg rm) m

/-! ## Block transfers -/

/-- The lowest address and the written-back base in the four modes, and the order: a lower register has a lower address. -/
def Obligations.BlockAddresses : Prop :=
  ∀ (base : Word) (list : BitVec 16),
    let n := BitVec.ofNat 32 (4 * count list)
    BlockMode.ia.start base list = base ∧ BlockMode.ib.start base list = base + 4 ∧
    BlockMode.da.start base list = base - n + 4 ∧ BlockMode.db.start base list = base - n ∧
    BlockMode.ia.newBase base list = base + n ∧ BlockMode.ib.newBase base list = base + n ∧
    BlockMode.da.newBase base list = base - n ∧ BlockMode.db.newBase base list = base - n ∧
    (∀ r r' : Reg, inList list r = true → inList list r' = true → (rank list r < rank list r' ↔ r.toNat < r'.toNat)) ∧
    (∀ r : Reg, inList list r = true → rank list r < count list)

/-- LDM, POP and the Thumb LDMIA without r15: the listed registers, of the User bank with `^`, hold the words; the base; nothing
else. -/
def Obligations.LoadMultipleResult : Prop :=
  ∀ (i : Instr) (f : Block) (s : State), loadBlock i = some f → Runs i f.reads s → Room s → inList f.list 15#4 = false →
    Size.word.aligned (f.start s) = true → (∀ k < count f.list, Readable s (f.addr s k) .word s.isPriv) →
    ∃ t, exec i s = .next t ∧ BlockLoaded f (if f.sb then .usr else s.mode) s t.regs ∧
      t = { s.begun with regs := t.regs, pc := s.pc + s.len, usrLdm := f.sb, bus := t.bus }

/-- LDM and POP with r15: the registers of the current mode and a branch to the last word; with `^` also the return from the exception,
refused in a mode without SPSR. -/
def Obligations.LoadMultipleToPcResult : Prop :=
  ∀ (i : Instr) (f : Block) (s : State), loadBlock i = some f → Runs i f.reads s → inList f.list 15#4 = true →
    Size.word.aligned (f.start s) = true → (∀ k < count f.list, Readable s (f.addr s k) .word s.isPriv) →
    let v := s.mem.word s.env.params.bigend (f.addr s (rank f.list 15#4))
    (∀ p, (if f.sb then s.spsr.get s.mode = some p else p = s.cpsr) →
      ∃ t, exec i s = .next t ∧ BlockLoaded f s.mode s t.regs ∧
        t = { s.begun with
              regs := t.regs
              cpsr := p
              pc := if p.t then v &&& 0xFFFFFFFE#32 else v &&& 0xFFFFFFFC#32
              fetchPriv := decide (p.m ≠ 0b10000#5)
              nextFetchPriv := decide (p.m ≠ 0b10000#5)
              bus := t.bus }) ∧
    (f.sb = true → s.spsr.get s.mode = none → exec i s = .refused .noSpsr)

/-- STM, PUSH and the Thumb STMIA: memory holds the registers as they were before the write-back (r15 as the address plus 12, the
User bank with `^`), every other byte as before; the base; nothing else. -/
def Obligations.StoreMultipleResult : Prop :=
  ∀ (i : Instr) (f : Block) (s : State), storeBlock s.mode i = some f → Runs i f.reads s → Room s → s.mem.wf = true →
    Size.word.aligned (f.start s) = true → (∀ k < count f.list, Writable s (f.addr s k) .word s.isPriv) →
    ∃ t, exec i s = .next t ∧ t.mem.wf = true ∧
      (∀ r : Reg, inList f.list r = true →
        t.mem.word s.env.params.bigend (f.addr s (rank f.list r)) =
          s.regView (if f.sb then .usr else s.mode) (s.pc + 12) r) ∧
      (∀ b : Word, (∀ k < 4 * count f.list, b ≠ f.start s + BitVec.ofNat 32 k) → t.mem.byte b = s.mem.byte b) ∧
      t = { s.begun with
            regs := f.baseRegs s
            mem := t.mem
            pc := s.pc + s.len
            bus := t.bus }

/-- A Data Abort in a block transfer: all its accesses are made and the exception is taken. A block load holds in the listed registers
before the first aborted access, other than the base, the words of memory; the later ones and every other register are as before;
the base is written back with W and else as it was; memory and the status registers are untouched. A block store writes the words
whose accesses do not abort and leaves every other byte as it was; the base is written back with W. -/
def Obligations.BlockTransferDataAbort : Prop :=
  (∀ (i : Instr) (f : Block) (s : State) (j : Nat), loadBlock i = some f → Runs i f.reads s → s.dbg.feed = none →
    (f.sb = true → inList f.list 15#4 = true → s.spsr.get s.mode ≠ none) → Size.word.aligned (f.start s) = true →
    j < count f.list → s.env.aborting (f.addr s j).toNat .word .read s.isPriv = true →
    (∀ k < j, Readable s (f.addr s k) .word s.isPriv) →
    ∃ u : State, exec i s = .next (u.takeException .dabt) ∧ u.reg f.rn = (if f.w then f.newBase s else s.reg f.rn) ∧
      (let bank := if f.sb && !inList f.list 15#4 then .usr else s.mode
       ∀ p, phys s.mode f.rn ≠ some p →
        (∀ r, phys bank r = some p → u.regs.get p =
          if inList f.list r = true ∧ rank f.list r < j then s.mem.word s.env.params.bigend (f.addr s (rank f.list r))
          else s.regs.get p) ∧
        ((∀ r, phys bank r ≠ some p) → u.regs.get p = s.regs.get p)) ∧
      u.pc = s.pc ∧ u.cpsr = s.cpsr ∧ u.spsr = s.spsr ∧ u.mem = s.mem ∧ u.dcc = s.dcc) ∧
  (∀ (i : Instr) (f : Block) (s : State), storeBlock s.mode i = some f → Runs i f.reads s → s.dbg.feed = none →
    s.mem.wf = true → Size.word.aligned (f.start s) = true →
    (∃ k < count f.list, s.env.aborting (f.addr s k).toNat .word .write s.isPriv = true) →
    (∀ k < count f.list, s.env.aborting (f.addr s k).toNat .word .write s.isPriv = true ∨
      Writable s (f.addr s k) .word s.isPriv) →
    ∃ (m : Memory) (b : List BusAccess),
      exec i s = .next (({ s.begun with regs := f.baseRegs s, mem := m, bus := b } : State).takeException .dabt) ∧ m.wf = true ∧
      (∀ r : Reg, inList f.list r = true →
        let a := f.addr s (rank f.list r)
        if s.env.aborting a.toNat .word .write s.isPriv then ∀ k < 4, m.byte (a + BitVec.ofNat 32 k) = s.mem.byte (a + BitVec.ofNat 32 k)
        else m.word s.env.params.bigend a = s.regView (if f.sb then .usr else s.mode) (s.pc + 12) r) ∧
      ∀ b : Word, (∀ k < 4 * count f.list, b ≠ f.start s + BitVec.ofNat 32 k) → m.byte b = s.mem.byte b)

/-! ## Coprocessors -/

/-- A coprocessor instruction that no coprocessor answers takes the undefined instruction trap, whatever registers it names; while its
coprocessor is busy it waits in the Execute stage and nothing changes but the coprocessor's own count (log entries 25 and 41); the
invalid response is refused. What is offered carries the privilege of the fetch. -/
def Obligations.CoprocessorAbsentOrBusy : Prop :=
  ∀ (i : Instr) (o : CopOffer) (s : State), copForm s i = some o → o.number ≠ 14#4 → Offered i s →
    (s.env.responder o = none → exec i s = .next (s.begun.takeException .und)) ∧
    (∀ c, s.env.responder o = some c →
      (c.answer o = .busy →
        exec i s = .next { s with env := s.env.withResponder o CopPort.waited, waiting := some i }) ∧
      (c.answer o = .invalid → exec i s = .refused .coprocessorProtocol))

/-- CDP, MCR and MRC with a coprocessor that accepts: the coprocessor takes what it is sent, MRC delivers a word of it to Rd or, for r15,
to the flags. That coprocessors are rules and banks held in State, and that what they saw is recorded, is the model's choice (log entry
25). -/
def Obligations.CoprocessorRegisterTransferResult : Prop :=
  ∀ (i : Instr) (o : CopOffer) (c : CopPort) (r : CopRule) (s : State), copForm s i = some o → o.number ≠ 14#4 →
    Accepts s o c r → Room s →
    let asked (taken data : List Word) : State :=
      { s.begun with
        env := s.env.withResponder o (fun p => p.executed r taken false)
        cop := s.cop ++ [⟨o, data, false⟩]
        pc := s.pc + 4 }
    (∀ cond op1 crn crd n op2 crm, i = .cdp cond op1 crn crd n op2 crm → Runs i [] s → exec i s = .next (asked [] [])) ∧
    (∀ cond op1 crn rd n op2 crm, i = .mcr cond op1 crn rd n op2 crm → Runs i [rd] s →
      exec i s = .next (asked [s.reg rd] [s.reg rd])) ∧
    (∀ cond op1 crn rd n op2 crm, i = .mrc cond op1 crn rd n op2 crm → Runs i [] s →
      let v := c.source r.gives
      exec i s = .next
        (if rd = 15#4 then
          { asked [] [v] with cpsr := { s.cpsr with n := v.getLsbD 31, z := v.getLsbD 30, c := v.getLsbD 29, v := v.getLsbD 28 } }
         else { asked [] [v] with regs := (s.setReg rd v).regs }))

/-- LDC and STC with a coprocessor that accepts: as many words as it has places for or gives, at ascending addresses, and the base
write-back. That the coprocessor is rules and a bank held in State is the model's choice (log entry 25). -/
def Obligations.CoprocessorMemoryTransferResult : Prop :=
  ∀ (cond : Cond) (p u l w : Bool) (rn : Reg) (crd n : BitVec 4) (off : BitVec 8) (o : CopOffer) (c : CopPort) (r : CopRule)
      (s : State), n ≠ 14#4 → Accepts s o c r → Room s →
    let t := transferOf p u w (s.reg rn) (4 * off.setWidth 32)
    let at' (k : Nat) : Word := t.addr + BitVec.ofNat 32 (4 * k)
    let regs := if w then (s.setReg rn t.newBase).regs else s.regs
    Size.word.aligned t.addr = true →
    (let i : Instr := .ldc cond p u l w rn crd n off
     let k := r.takesMore.length + 1
     let ds := (List.range k).map (fun j => s.mem.word s.env.params.bigend (at' j))
     copForm s i = some o → Runs i [rn] s → (∀ j < k, Readable s (at' j) .word s.isPriv) →
      ∃ b, exec i s = .next
        { s.begun with
          regs := regs
          env := s.env.withResponder o (fun q => q.executed r ds false)
          cop := s.cop ++ [⟨o, ds, false⟩]
          pc := s.pc + 4
          bus := b }) ∧
    (let i : Instr := .stc cond p u l w rn crd n off
     let ws := (r.gives :: r.givesMore).map c.source
     copForm s i = some o → Runs i [rn] s → (∀ j < ws.length, Writable s (at' j) .word s.isPriv) → s.mem.wf = true →
      ws.length ≤ 2^28 →
      ∃ b m, exec i s = .next
          { s.begun with
            regs := regs
            env := s.env.withResponder o (fun q => q.executed r [] false)
            cop := s.cop ++ [⟨o, ws, false⟩]
            mem := m
            pc := s.pc + 4
            bus := b } ∧
        (∀ j < ws.length, m.word s.env.params.bigend (at' j) = ws.getD j 0) ∧
        (∀ b : Word, (∀ j < 4 * ws.length, b ≠ t.addr + BitVec.ofNat 32 j) → m.byte b = s.mem.byte b))

/-- The three accesses to the communications channel: the control register with version 0001, any bits, W and R; writing sets W;
reading clears R; for r15 the flags. -/
def Obligations.CommunicationsChannelResult : Prop :=
  ∀ (cond : Cond) (rd : Reg) (s : State), Room s →
    let given (u : State) (v : Word) : State :=
      { u with
        regs := if rd = 15#4 then s.regs else (s.setReg rd v).regs
        cpsr :=
          if rd = 15#4 then { s.cpsr with n := v.getLsbD 31, z := v.getLsbD 30, c := v.getLsbD 29, v := v.getLsbD 28 }
          else s.cpsr
        pc := s.pc + 4 }
    (Runs (.mrc cond 0#3 0#4 rd 14#4 0#3 0#4) [] s →
      ∃ v : Word, exec (.mrc cond 0#3 0#4 rd 14#4 0#3 0#4) s = .next (given { s.begun with free := s.free + 1 } v) ∧
        v.extractLsb' 28 4 = 0b0001#4 ∧ v.getLsbD 1 = s.dcc.w ∧ v.getLsbD 0 = s.dcc.r) ∧
    (Runs (.mrc cond 0#3 1#4 rd 14#4 0#3 0#4) [] s →
      exec (.mrc cond 0#3 1#4 rd 14#4 0#3 0#4) s =
        .next (given { s.begun with dcc := { s.dcc with r := false } } s.dcc.dataRead)) ∧
    (Runs (.mcr cond 0#3 1#4 rd 14#4 0#3 0#4) [rd] s →
      exec (.mcr cond 0#3 1#4 rd 14#4 0#3 0#4) s =
        .next { s.begun with dcc := { s.dcc with dataWrite := s.reg rd, w := true }, pc := s.pc + 4 })

/-- Every other instruction to coprocessor 14 is refused. -/
def Obligations.OtherCp14InstructionsAreRefused : Prop :=
  ∀ (i : Instr) (o : CopOffer) (s : State), copForm s i = some o → o.number = 14#4 → Offered i s →
    (∀ cond crn rd, i = .mrc cond 0#3 crn rd 14#4 0#3 0#4 → 2 ≤ crn.toNat) →
    (∀ cond crn rd, i = .mcr cond 0#3 crn rd 14#4 0#3 0#4 → crn ≠ 1#4) →
    exec i s = .refused .debugCoprocessor

/-- The debugger's accesses to the EmbeddedICE registers. The channel: reading the data write register gives the word and clears W,
writing the data read register stores the word and sets R, and COMMRX and COMMTX follow R and W. The control register reads as
written and its bit 0 drives DBGACK HIGH; the status register reads as it stands and takes what is written, which the model keeps until
the next TCK (log entry 44). The six registers of each watchpoint unit read as written, and no other unit or register
changes; outside debug state a write is refused where its unit is enabled before or after. Every other address is refused. -/
def Obligations.EmbeddedIceRegisterAccess : Prop :=
  ∀ (s : State) (v : Word),
    (s.iceRead 5#5 = some (s.dcc.dataWrite, { s with dcc := { s.dcc with w := false } }) ∧
      s.iceWrite 5#5 v = .next { s with dcc := { s.dcc with dataRead := v, r := true } } ∧
      s.outputs.commRx = s.dcc.r ∧ s.outputs.commTx = !s.dcc.w) ∧
    (s.iceRead 0#5 = some (s.ice.control.setWidth 32, s) ∧
      s.iceWrite 0#5 v = .next { s with ice := { s.ice with control := v.extractLsb' 0 3 } } ∧
      s.outputs.dbgack = (s.dbg.inDebug || s.ice.control.getLsbD 0)) ∧
    (s.iceRead 1#5 = some (s.ice.status.setWidth 32, s) ∧
      s.iceWrite 1#5 v = .next { s with ice := { s.ice with status := v.extractLsb' 0 5 } }) ∧
    (∀ (k : BitVec 3) (first : Bool), k.toNat ≤ 5 →
      let a : BitVec 5 := (if first then 0b01#2 else 0b10#2) ++ k
      let x : Watch := if first then s.ice.w0 else s.ice.w1
      let y : Watch := match k.toNat with
        | 0 => { x with addrValue := v }
        | 1 => { x with addrMask := v }
        | 2 => { x with dataValue := v }
        | 3 => { x with dataMask := v }
        | 4 => { x with ctlValue := v.extractLsb' 0 9, chainOut := false }
        | _ => { x with ctlMask := v.extractLsb' 0 8 }
      let allowed : Bool := s.dbg.inDebug || (!x.ctlValue.getLsbD 8 && !y.ctlValue.getLsbD 8)
      s.iceRead a = some ((match k.toNat with
        | 0 => x.addrValue | 1 => x.addrMask | 2 => x.dataValue | 3 => x.dataMask
        | 4 => x.ctlValue.setWidth 32 | _ => x.ctlMask.setWidth 32), s) ∧
      s.iceWrite a v =
        if allowed then .next { s with ice := if first then { s.ice with w0 := y } else { s.ice with w1 := y } }
        else .refused .watchProgramming) ∧
    (∀ a : BitVec 5, a.toNat ∉ [0, 1, 4, 5, 8, 9, 10, 11, 12, 13, 16, 17, 18, 19, 20, 21] →
      s.iceWrite a v = .refused .iceAddress ∧ s.iceRead a = none)

/-! ## Exceptions -/

/-- SWI and the undefined instructions of both states take their exceptions. -/
def Obligations.TrapInstructionsTakeTheirExceptions : Prop :=
  ∀ (i : Instr) (e : Exc) (s : State), Runs i [] s →
    (((∃ cond imm, i = .swi cond imm) ∨ ∃ imm, i = .tSwi imm) ∧ e = .swi ∨
      ((∃ cond hi lo, i = .undefined cond hi lo) ∨ ∃ imm, i = .tUndefined imm) ∧ e = .und) →
    exec i s = .next (s.begun.takeException e)

/-- Taking an exception: the link in r14 and the CPSR in the SPSR of the new mode, the new mode, ARM state, I set, F set by FIQ
alone, the vector; no other register, status register, or byte of memory changes. -/
def Obligations.ExceptionEntry : Prop :=
  ∀ (e : Exc) (s : State),
    let t := s.takeException e
    let m : Mode := match e with | .und => .und | .swi => .svc | .pabt => .abt | .dabt => .abt | .irq => .irq | .fiq => .fiq
    let l : Word := if s.cpsr.t then 2 else 4
    let link : Word := match e with | .und => s.pc + l | .swi => s.pc + l | .dabt => s.pc + 8 | .pabt | .irq | .fiq => s.pc + 4
    let v : Word := match e with | .und => 0x4 | .swi => 0x8 | .pabt => 0xC | .dabt => 0x10 | .irq => 0x18 | .fiq => 0x1C
    t.regView m 0 14#4 = link ∧ (∀ p, phys m 14#4 ≠ some p → t.regs.get p = s.regs.get p) ∧
    t.spsr.get m = some s.cpsr ∧ (∀ m', m' ≠ m → t.spsr.get m' = s.spsr.get m') ∧
    t.cpsr = { s.cpsr with m := m.bits, t := false, i := true, f := if e = .fiq then true else s.cpsr.f } ∧
    t.pc = v ∧
    t = { s with regs := t.regs, spsr := t.spsr, cpsr := t.cpsr, pc := t.pc, fetchPriv := true, nextFetchPriv := true,
                 usrLdm := false, waiting := none, dbg := { s.dbg with entered := true } }

/-- Returning from each exception: MOVS PC, R14 after SWI and Undefined goes on at the next instruction; SUBS PC, R14, #4 after
Prefetch Abort, IRQ and FIQ, and SUBS PC, R14, #8 after Data Abort, at the instruction itself. The CPSR and every register but the link
are as they were. -/
def Obligations.ExceptionReturn : Prop :=
  ∀ (e : Exc) (s : State), s.pcAligned → s.dbg.inDebug = false →
    let i : Instr := match e with
      | .swi | .und => .movShi .al true 0#4 15#4 0#5 .lsl 14#4
      | .pabt | .irq | .fiq => .subImm .al true 14#4 15#4 0#4 4#8
      | .dabt => .subImm .al true 14#4 15#4 0#4 8#8
    encode i = .arm (match e with | .swi | .und => 0xE1B0F00E | .pabt | .irq | .fiq => 0xE25EF004 | .dabt => 0xE25EF008) ∧
    ∃ t, exec i (s.takeException e) = .next t ∧
      t.pc = (match e with | .swi | .und => s.pc + s.len | .pabt | .irq | .fiq | .dabt => s.pc) ∧
      t.cpsr = s.cpsr ∧ t.mem = s.mem ∧ ∀ p, phys e.mode 14#4 ≠ some p → t.regs.get p = s.regs.get p

/-- Interrupts at an instruction boundary: FIQ first, then IRQ, each if its pin is LOW, its bit is clear and the debug logic lets
it through; the instruction is not executed. -/
def Obligations.InterruptsAtTheBoundary : Prop :=
  ∀ s : State, s.script = [] → s.dbg.inDebug = false → Mode.ofBits s.cpsr.m ≠ none → s.ifen = true →
    let u : State := { s with bus := [], cop := [], ranges := [] }
    (s.env.pins.nFiq = false → s.cpsr.f = false → step s = .next (u.takeException .fiq)) ∧
    ((s.env.pins.nFiq = true ∨ s.cpsr.f = true) → s.env.pins.nIrq = false → s.cpsr.i = false →
      step s = .next (u.takeException .irq))

/-- An instruction whose fetch aborts takes the Prefetch Abort when it is reached, and nothing else happens. -/
def Obligations.PrefetchAbort : Prop :=
  ∀ s : State, AtInstruction s → s.env.params.dbgen = false → s.env.params.pabtCondFromBus = false →
    s.env.aborting s.pc.toNat s.fetchSize .fetch s.fetchPriv = true →
    ∃ x, step s = .next
      (({ s with bus := [x], cop := [], ranges := [], free := s.free + 1, dbg := { s.dbg with entered := false } } : State).takeException
        .pabt)

/-- In debug state, and in a mode with no legal encoding, the core takes no interrupt and executes nothing by itself. That such a step is
a next state that changes only the records of the last step is, for an illegal mode, the model's reading (log entry 11). -/
def Obligations.StoppedCore : Prop :=
  ∀ s : State, s.script = [] → (s.dbg.inDebug = true ∨ Mode.ofBits s.cpsr.m = none) →
    step s = .next { s with bus := [], cop := [], ranges := [] }

/-! ## Debug -/

/-- The watchpoint comparison bit by bit: a bit whose mask bit is 1 always matches, another one where value and bus agree. A bus
cycle puts the match of each unit on RANGEOUT0 and RANGEOUT1, whatever ENABLE is; unit 0 has unit 1's match as its RANGE input and
unit 1's latch as its CHAIN input, and each latch takes the data match where the address matches. What unit 1's own two inputs carry
(`r`, `c`) is any value. That all 32 bits of the data bus are compared in a byte or halfword data access (`uncomparedLanes`) is
the model's choice, which rule R555 leaves open (log entry 31), and so is the form in which the levels of RANGEOUT are recorded
(log entry 51). -/
def Obligations.WatchpointComparison : Prop :=
  (∀ (w : Watch) (x : BusAccess) (range chain ext : Bool),
    (w.addrCtlMatch x = true ↔
      (∀ k < 32, w.addrMask.getLsbD k = true ∨ w.addrValue.getLsbD k = x.addr.getLsbD k) ∧
      (∀ k < 5, w.ctlMask.getLsbD k = true ∨ w.ctlValue.getLsbD k = x.control.getLsbD k)) ∧
    (w.dataCplMatch x 0#32 range chain ext = true ↔
      (∀ k < 32, w.dataMask.getLsbD k = true ∨ w.dataValue.getLsbD k = x.data.getLsbD k) ∧
      (w.ctlMask.getLsbD 7 = true ∨ w.ctlValue.getLsbD 7 = range) ∧
      (w.ctlMask.getLsbD 6 = true ∨ w.ctlValue.getLsbD 6 = chain) ∧
      (w.ctlMask.getLsbD 5 = true ∨ w.ctlValue.getLsbD 5 = ext))) ∧
  (∀ (s : State) (x : BusAccess), s.env.params.dbgen = true → ∃ r c : Bool,
    let lanes := uncomparedLanes s.env.params.bigend x
    let d1 := s.ice.w1.dataCplMatch x lanes r c s.env.pins.extern1
    let m1 := s.ice.w1.addrCtlMatch x && d1
    let d0 := s.ice.w0.dataCplMatch x lanes m1 s.ice.w1.chainOut s.env.pins.extern0
    let m0 := s.ice.w0.addrCtlMatch x && d0
    let t := (State.observeAll [x] s).2
    t.outputs.rangeOut = s.outputs.rangeOut ++ [⟨m0, m1⟩] ∧
    t.ice.w0 = { s.ice.w0 with chainOut := if s.ice.w0.addrCtlMatch x = true then d0 else s.ice.w0.chainOut } ∧
    t.ice.w1 = { s.ice.w1 with chainOut := if s.ice.w1.addrCtlMatch x = true then d1 else s.ice.w1.chainOut } ∧
    ((State.observeAll [x] s).1 = true ↔
      m0 = true ∧ s.ice.w0.ctlValue.getLsbD 8 = true ∨ m1 = true ∧ s.ice.w1.ctlValue.getLsbD 8 = true ∨
        s.env.extBreak.any (fun b => b.covers x.addr.toNat x.size x.kind x.priv) = true))

/-- A breakpointed instruction that is reached is not executed: debug state is entered, bit 33 clear, with registers, status
registers, memory and the communications channel as they were. That the program counter of this model then stands three slots on is
the model's choice, DEDUCED (log entry 33) from the return branch of rule R562: the table of that rule prints four slots for a
breakpoint, of which this model counts the one of the final branch when the branch reads r15. -/
def Obligations.BreakpointEntersDebugState : Prop :=
  ∀ s t : State, AtInstruction s → s.dbg.watchHit = false → s.dbgrqi = false → Fetchable s →
    State.observeAll (fetched s).bus (fetched s) = (true, t) →
    ∃ u, step s = .next u ∧ u.dbg.inDebug = true ∧ u.dbg.bit33 = some false ∧ u.regs = s.regs ∧ u.cpsr = s.cpsr ∧ u.spsr = s.spsr ∧
      u.mem = s.mem ∧ u.dcc = s.dcc ∧ u.pc = s.pc + 3 * s.len

/-- The core in debug state. A data processing instruction scanned in two clocks before executes as it would outside debug state; an
instruction that rule R561 (e) does not list is refused. RESTART with MOV R0, R0 scanned in with bit 33 set and then a branch leaves
debug state at the branch's target; with a load after it the load is made on the bus and the core is back in debug state, bit 33
HIGH, the program counter four slots on in all (log entries 32 and 33). -/
def Obligations.DebugStateExecutesScannedInstructions : Prop :=
  ∀ (s : State) (p q : DbgSlot), Mode.ofBits s.cpsr.m ≠ none → s.cpsr.t = false → s.dbg.inDebug = true → s.dbg.phase = .ready →
    s.dbg.pipe = [p, q] →
    (∀ (o : Operand2) (op : DpOp) (cond : Cond) (sf : Bool) (rn rd : Reg) (w : DbgSlot),
      decode false p.word = .ok (o.instr op cond sf rn rd) → Runs (o.instr op cond sf rn rd) (o.reads rn) s → rd ≠ 15#4 →
      ∃ u, s.debugClock w = .next u ∧ u.dbg.inDebug = true ∧ u.dbg.pipe = [q, w] ∧
        u = { dpNext op sf rd (o.first s rn) (o.second s) s with dbg := u.dbg }) ∧
    (∀ (i : Instr) (w : DbgSlot), decode false p.word = .ok i →
      ((∃ cond imm, i = .swi cond imm) ∨
        (∃ (cond : Cond) (byte : Bool) (rn rd rm : Reg), i = if byte then .swpb cond rn rd rm else .swp cond rn rd rm) ∨
        (∃ cond sf rd rn rs rm, i = .mul cond sf rd rn rs rm) ∨ copForm s i ≠ none) →
      s.debugClock w = .refused .debugInstruction) ∧
    (p.word = 0xE1A00000#32 → p.mark = true → s.usrLdm = false → s.env.params.dbgen = true →
      (∀ (cond : Cond) (off : BitVec 24), decode false q.word = .ok (.b cond off) → conditionPassed s.cpsr cond = true →
        ∃ u, s.restart = .next u ∧ u.dbg.inDebug = false ∧ u.pc = (s.pc + 12 + (off.signExtend 32 <<< 2)) &&& 0xFFFFFFFC#32 ∧
          u.regs = s.regs ∧ u.cpsr = s.cpsr ∧ u.spsr = s.spsr ∧ u.mem = s.mem) ∧
      (∀ (i : Instr) (f : Single LoadKind),
        let s' : State := { s.begun with pc := s.pc + 4, dbg := { s.dbg with feed := none } }
        decode false q.word = .ok i → loadForm s' i = some f → Runs i f.reads s' → f.rd ≠ 15#4 →
        f.kind.size.aligned f.tr.addr = true → Readable s' f.tr.addr f.kind.size (s.isPriv && !f.user) →
        ∃ u, s.restart = .next u ∧ u.dbg.inDebug = true ∧ u.dbg.bit33 = some true ∧ u.dbg.pipe = [] ∧ u.pc = s.pc + 16 ∧
          u.regs = ((baseRegs f s').setReg f.rd (loaded f.kind s.env.params.bigend s.mem f.tr.addr)).regs ∧
          u.cpsr = s.cpsr ∧ u.spsr = s.spsr ∧ u.mem = s.mem))

/-- Five TCK cycles with TMS HIGH reach TEST-LOGIC RESET from every state of the controller. -/
def Obligations.FiveTmsHighResetTheTap : Prop :=
  ∀ q : TapState, ((((q.next true).next true).next true).next true).next true = .testLogicReset
end

