-- ==== Sys2Proof/Laws/Memory.lean ====
section
/-! SUPPORT. Memory: reading after writing, and every operation keeps the canonical form. -/

namespace Sys2Proof.Machine

theorem Memory.wfFrom_mono {lo lo' : Nat} {m : Memory} (h : m.wfFrom lo = true) (hl : lo' ≤ lo) : m.wfFrom lo' = true := by
  cases m with
  | nil => rfl
  | cons p rest =>
    obtain ⟨k, b⟩ := p
    simp only [Memory.wfFrom, Bool.and_eq_true, decide_eq_true_eq] at h ⊢
    exact ⟨⟨⟨by omega, h.1.1.2⟩, h.1.2⟩, h.2⟩

/-- Below the first listed address every byte is the unlisted one. -/
theorem Memory.read_below {lo : Nat} {m : Memory} (h : m.wfFrom lo = true) {a : Nat} (ha : a < lo) :
    m.read a = Config.unlistedByte := by
  induction m generalizing lo with
  | nil => rfl
  | cons p rest ih =>
    obtain ⟨k, b⟩ := p
    simp only [Memory.wfFrom, Bool.and_eq_true, decide_eq_true_eq] at h
    rw [Memory.read, if_neg (by omega)]
    exact ih h.2 (by omega)

/-- A write keeps the canonical form. -/
theorem Memory.write_wfFrom {lo : Nat} {m : Memory} (h : m.wfFrom lo = true) {a : Nat} (ha : lo ≤ a) (ha' : a < 2^32)
    (b : Byte) : (m.write a b).wfFrom lo = true := by
  induction m generalizing lo with
  | nil =>
    rw [Memory.write]; split
    · rfl
    · simp_all [Memory.wfFrom]
  | cons p rest ih =>
    obtain ⟨k, c⟩ := p
    have h0 := h
    simp only [Memory.wfFrom, Bool.and_eq_true, decide_eq_true_eq] at h
    rw [Memory.write]
    split
    · split
      · exact h0
      · simp only [Memory.wfFrom, Bool.and_eq_true, decide_eq_true_eq]
        exact ⟨⟨⟨ha, ha'⟩, by assumption⟩, ⟨⟨⟨by omega, h.1.1.2⟩, h.1.2⟩, h.2⟩⟩
    · split
      · split
        · exact Memory.wfFrom_mono h.2 (by omega)
        · simp only [Memory.wfFrom, Bool.and_eq_true, decide_eq_true_eq]
          exact ⟨⟨⟨h.1.1.1, h.1.1.2⟩, by assumption⟩, h.2⟩
      · simp only [Memory.wfFrom, Bool.and_eq_true, decide_eq_true_eq]
        exact ⟨⟨⟨h.1.1.1, h.1.1.2⟩, h.1.2⟩, ih h.2 (by omega)⟩

theorem Memory.write_wf {m : Memory} (h : m.wf = true) {a : Nat} (ha : a < 2^32) (b : Byte) : (m.write a b).wf = true :=
  Memory.write_wfFrom h (Nat.zero_le a) ha b

theorem Memory.read_write_from {lo : Nat} {m : Memory} (h : m.wfFrom lo = true) {a : Nat} (b : Byte) (c : Nat) :
    (m.write a b).read c = if c = a then b else m.read c := by
  induction m generalizing lo with
  | nil =>
    by_cases hb : b = Config.unlistedByte <;> simp [Memory.write, Memory.read, hb]
  | cons p rest ih =>
    obtain ⟨k, d⟩ := p
    simp only [Memory.wfFrom, Bool.and_eq_true, decide_eq_true_eq] at h
    rw [Memory.write]
    by_cases h1 : a < k
    · rw [if_pos h1]
      by_cases hb : b = Config.unlistedByte
      · rw [if_pos hb]
        by_cases hc : c = a
        · rw [if_pos hc, hc, hb, Memory.read, if_neg (by omega)]
          exact Memory.read_below h.2 (by omega)
        · rw [if_neg hc]
      · rw [if_neg hb, Memory.read]
    · rw [if_neg h1]
      by_cases h2 : a = k
      · rw [if_pos h2]
        subst h2
        by_cases hb : b = Config.unlistedByte
        · rw [if_pos hb]
          by_cases hc : c = a
          · rw [if_pos hc, hc, hb]
            exact Memory.read_below h.2 (by omega)
          · rw [if_neg hc, Memory.read, if_neg hc]
        · rw [if_neg hb, Memory.read, Memory.read]
          by_cases hc : c = a <;> simp [hc]
      · rw [if_neg h2, Memory.read, Memory.read, ih h.2]
        by_cases hc : c = a
        · rw [if_pos hc, hc, if_neg (by omega)]; simp
        · simp [hc]

/-- Reading after writing: the written address gives the byte, every other one what it gave. -/
theorem Memory.read_write {m : Memory} (h : m.wf = true) (a : Nat) (b : Byte) (c : Nat) :
    (m.write a b).read c = if c = a then b else m.read c :=
  Memory.read_write_from h b c

/-- Storing a value keeps the canonical form. -/
theorem Memory.store_wf {m : Memory} (h : m.wf = true) (big : Bool) (z : Size) (a v : Word) :
    (m.store big z a v).wf = true := by
  unfold Memory.store
  generalize List.range z.bytes = l
  induction l generalizing m with
  | nil => exact h
  | cons i l ih => exact ih (Memory.write_wf h (BitVec.isLt _) _)

/-- The bytes of a store, one write for each. -/
theorem Memory.byte_foldl_write {m : Memory} (h : m.wf = true) (f : Nat → Byte) (a b : Word) (l : List Nat) :
    (l.foldl (fun m i => m.write (a + BitVec.ofNat 32 i).toNat (f i)) m).byte b =
      match l.reverse.find? (fun i => decide (b = a + BitVec.ofNat 32 i)) with
      | some i => f i
      | none => m.byte b := by
  induction l generalizing m with
  | nil => rfl
  | cons i l ih =>
    have hw := Memory.write_wf h (BitVec.isLt (a + BitVec.ofNat 32 i)) (f i)
    simp only [List.foldl_cons, ih hw, List.reverse_cons, List.find?_append]
    cases List.find? (fun i => decide (b = a + BitVec.ofNat 32 i)) l.reverse with
    | some j => rfl
    | none =>
      by_cases hb : b = a + BitVec.ofNat 32 i
      · subst hb; simp [Memory.byte, Memory.read_write h]
      · have hn : b.toNat ≠ (a + BitVec.ofNat 32 i).toNat := fun e => hb (BitVec.eq_of_toNat_eq e)
        have hr : (m.write (a + BitVec.ofNat 32 i).toNat (f i)).read b.toNat = m.read b.toNat := by
          rw [Memory.read_write h, if_neg hn]
        simp [hb, Memory.byte, hr, -BitVec.toNat_add]

/-- A store leaves every byte outside the stored ones as it was. -/
theorem Memory.byte_store_other {m : Memory} (h : m.wf = true) (big : Bool) (z : Size) (a v b : Word)
    (hb : ∀ i < z.bytes, b ≠ a + BitVec.ofNat 32 i) : (m.store big z a v).byte b = m.byte b := by
  rw [Memory.store, Memory.byte_foldl_write h]
  have hn : List.find? (fun i => decide (b = a + BitVec.ofNat 32 i)) (List.range z.bytes).reverse = none := by
    simpa using hb
  rw [hn]

/-- A stored byte reads as the byte of the value that belongs there. -/
theorem Memory.byte_store {m : Memory} (h : m.wf = true) (big : Bool) (z : Size) (a v : Word) {i : Nat} (hi : i < z.bytes) :
    (m.store big z a v).byte (a + BitVec.ofNat 32 i) = storeByte big z v i := by
  rw [Memory.store, Memory.byte_foldl_write h]
  have hz : z.bytes ≤ 4 := by cases z <;> decide
  cases hf : List.find? (fun j => decide (a + BitVec.ofNat 32 i = a + BitVec.ofNat 32 j)) (List.range z.bytes).reverse with
  | none =>
    have := List.find?_eq_none.mp hf i (by simpa using hi)
    simp at this
  | some j =>
    have hj := List.find?_some hf
    have hm := List.mem_of_find?_eq_some hf
    simp only [List.mem_reverse, List.mem_range] at hm
    simp only [decide_eq_true_eq] at hj
    have : i = j := by
      have h2 : BitVec.ofNat 32 i = BitVec.ofNat 32 j := by bv_omega
      have h3 := congrArg BitVec.toNat h2
      simp only [BitVec.toNat_ofNat] at h3
      omega
    rw [this]

/-- Placing bytes below 2^32 keeps the canonical form. -/
theorem Memory.place_wf {m : Memory} (h : m.wf = true) {a : Nat} {bs : List Byte} (hb : a + bs.length ≤ 2^32) :
    (m.place a bs).wf = true := by
  induction bs generalizing m a with
  | nil => exact h
  | cons b bs ih =>
    simp only [List.length_cons] at hb
    exact ih (Memory.write_wf h (by omega) b) (by omega)

/-- The memory after a store through the map keeps the canonical form. -/
theorem State.stored_wf {s : State} (h : s.mem.wf = true) (a : Word) (z : Size) (v : Word) : (s.stored a z v).wf = true := by
  unfold State.stored; split
  · exact Memory.store_wf h ..
  · exact h

/-- What replaying accesses leaves: only memory, the answers of devices still to come and the record of accesses can change. -/
structure ReplayFrame (s t : State) : Prop where
  eq : t = { s with mem := t.mem, env := { s.env with devIn := t.env.devIn }, bus := t.bus }
  wf : s.mem.wf = true → t.mem.wf = true

theorem ReplayFrame.trans {s t u : State} (h : ReplayFrame s t) (g : ReplayFrame t u) : ReplayFrame s u := by
  refine ⟨?_, fun w => g.wf (h.wf w)⟩
  rw [g.eq, h.eq]

theorem replay_frame (s : State) (x : BusAccess) : ReplayFrame s (replay s x) := by
  unfold replay; dsimp only
  split
  · exact ⟨rfl, id⟩
  · split
    · exact ⟨rfl, fun h => State.stored_wf (s := s.logged x) h ..⟩
    · split <;> exact ⟨rfl, id⟩
    · exact ⟨rfl, id⟩

/-- As `replay_frame` for a list of accesses. -/
theorem replays_frame (xs : List BusAccess) (s : State) : ReplayFrame s (xs.foldl replay s) := by
  induction xs generalizing s with
  | nil => exact ⟨rfl, id⟩
  | cons x xs ih => exact (replay_frame s x).trans (ih _)

/-- Memory at reset has the canonical form. -/
theorem State.reset_mem_wf : State.reset.mem.wf = true := rfl

end Sys2Proof.Machine
end

