-- ==== Sys2Proof/Laws/State.lean ====
section
/-! SUPPORT. What each update of the state leaves in each field: one lemma per field and update, so that no proof unfolds a
record update. -/

namespace Sys2Proof.Machine

@[simp] theorem State.branchTo_regs (s : State) (v : Word) :
    (s.branchTo v).regs = s.regs := rfl
@[simp] theorem State.branchTo_pc (s : State) (v : Word) :
    (s.branchTo v).pc = if s.cpsr.t then v &&& 0xFFFFFFFE#32 else v &&& 0xFFFFFFFC#32 := rfl
@[simp] theorem State.branchTo_cpsr (s : State) (v : Word) :
    (s.branchTo v).cpsr = s.cpsr := rfl
@[simp] theorem State.branchTo_spsr (s : State) (v : Word) :
    (s.branchTo v).spsr = s.spsr := rfl
@[simp] theorem State.branchTo_psrRead (s : State) (v : Word) :
    (s.branchTo v).psrRead = s.psrRead := rfl
@[simp] theorem State.branchTo_mem (s : State) (v : Word) :
    (s.branchTo v).mem = s.mem := rfl
@[simp] theorem State.branchTo_dcc (s : State) (v : Word) :
    (s.branchTo v).dcc = s.dcc := rfl
@[simp] theorem State.branchTo_ice (s : State) (v : Word) :
    (s.branchTo v).ice = s.ice := rfl
@[simp] theorem State.branchTo_tap (s : State) (v : Word) :
    (s.branchTo v).tap = s.tap := rfl
@[simp] theorem State.branchTo_dbg (s : State) (v : Word) :
    (s.branchTo v).dbg = s.dbg := rfl
@[simp] theorem State.branchTo_usrLdm (s : State) (v : Word) :
    (s.branchTo v).usrLdm = s.usrLdm := rfl
@[simp] theorem State.branchTo_waiting (s : State) (v : Word) :
    (s.branchTo v).waiting = s.waiting := rfl
@[simp] theorem State.branchTo_fetchPriv (s : State) (v : Word) :
    (s.branchTo v).fetchPriv = s.isPriv := rfl
@[simp] theorem State.branchTo_nextFetchPriv (s : State) (v : Word) :
    (s.branchTo v).nextFetchPriv = s.isPriv := rfl
@[simp] theorem State.branchTo_free (s : State) (v : Word) :
    (s.branchTo v).free = s.free := rfl
@[simp] theorem State.branchTo_env (s : State) (v : Word) :
    (s.branchTo v).env = s.env := rfl
@[simp] theorem State.branchTo_bus (s : State) (v : Word) :
    (s.branchTo v).bus = s.bus := rfl
@[simp] theorem State.branchTo_cop (s : State) (v : Word) :
    (s.branchTo v).cop = s.cop := rfl
@[simp] theorem State.branchTo_ranges (s : State) (v : Word) :
    (s.branchTo v).ranges = s.ranges := rfl
@[simp] theorem State.branchTo_script (s : State) (v : Word) :
    (s.branchTo v).script = s.script := rfl

@[simp] theorem State.drawn_regs (s : State) :
    (s.drawn).regs = s.regs := rfl
@[simp] theorem State.drawn_pc (s : State) :
    (s.drawn).pc = s.pc := rfl
@[simp] theorem State.drawn_cpsr (s : State) :
    (s.drawn).cpsr = s.cpsr := rfl
@[simp] theorem State.drawn_spsr (s : State) :
    (s.drawn).spsr = s.spsr := rfl
@[simp] theorem State.drawn_psrRead (s : State) :
    (s.drawn).psrRead = s.psrRead := rfl
@[simp] theorem State.drawn_mem (s : State) :
    (s.drawn).mem = s.mem := rfl
@[simp] theorem State.drawn_dcc (s : State) :
    (s.drawn).dcc = s.dcc := rfl
@[simp] theorem State.drawn_ice (s : State) :
    (s.drawn).ice = s.ice := rfl
@[simp] theorem State.drawn_tap (s : State) :
    (s.drawn).tap = s.tap := rfl
@[simp] theorem State.drawn_dbg (s : State) :
    (s.drawn).dbg = s.dbg := rfl
@[simp] theorem State.drawn_usrLdm (s : State) :
    (s.drawn).usrLdm = s.usrLdm := rfl
@[simp] theorem State.drawn_waiting (s : State) :
    (s.drawn).waiting = s.waiting := rfl
@[simp] theorem State.drawn_fetchPriv (s : State) :
    (s.drawn).fetchPriv = s.fetchPriv := rfl
@[simp] theorem State.drawn_nextFetchPriv (s : State) :
    (s.drawn).nextFetchPriv = s.nextFetchPriv := rfl
@[simp] theorem State.drawn_free (s : State) :
    (s.drawn).free = s.free + 1 := rfl
@[simp] theorem State.drawn_env (s : State) :
    (s.drawn).env = s.env := rfl
@[simp] theorem State.drawn_bus (s : State) :
    (s.drawn).bus = s.bus := rfl
@[simp] theorem State.drawn_cop (s : State) :
    (s.drawn).cop = s.cop := rfl
@[simp] theorem State.drawn_ranges (s : State) :
    (s.drawn).ranges = s.ranges := rfl
@[simp] theorem State.drawn_script (s : State) :
    (s.drawn).script = s.script := rfl

@[simp] theorem State.logged_regs (s : State) (x : BusAccess) :
    (s.logged x).regs = s.regs := rfl
@[simp] theorem State.logged_pc (s : State) (x : BusAccess) :
    (s.logged x).pc = s.pc := rfl
@[simp] theorem State.logged_cpsr (s : State) (x : BusAccess) :
    (s.logged x).cpsr = s.cpsr := rfl
@[simp] theorem State.logged_spsr (s : State) (x : BusAccess) :
    (s.logged x).spsr = s.spsr := rfl
@[simp] theorem State.logged_psrRead (s : State) (x : BusAccess) :
    (s.logged x).psrRead = s.psrRead := rfl
@[simp] theorem State.logged_mem (s : State) (x : BusAccess) :
    (s.logged x).mem = s.mem := rfl
@[simp] theorem State.logged_dcc (s : State) (x : BusAccess) :
    (s.logged x).dcc = s.dcc := rfl
@[simp] theorem State.logged_ice (s : State) (x : BusAccess) :
    (s.logged x).ice = s.ice := rfl
@[simp] theorem State.logged_tap (s : State) (x : BusAccess) :
    (s.logged x).tap = s.tap := rfl
@[simp] theorem State.logged_dbg (s : State) (x : BusAccess) :
    (s.logged x).dbg = s.dbg := rfl
@[simp] theorem State.logged_usrLdm (s : State) (x : BusAccess) :
    (s.logged x).usrLdm = s.usrLdm := rfl
@[simp] theorem State.logged_waiting (s : State) (x : BusAccess) :
    (s.logged x).waiting = s.waiting := rfl
@[simp] theorem State.logged_fetchPriv (s : State) (x : BusAccess) :
    (s.logged x).fetchPriv = s.fetchPriv := rfl
@[simp] theorem State.logged_nextFetchPriv (s : State) (x : BusAccess) :
    (s.logged x).nextFetchPriv = s.nextFetchPriv := rfl
@[simp] theorem State.logged_free (s : State) (x : BusAccess) :
    (s.logged x).free = s.free := rfl
@[simp] theorem State.logged_env (s : State) (x : BusAccess) :
    (s.logged x).env = s.env := rfl
@[simp] theorem State.logged_bus (s : State) (x : BusAccess) :
    (s.logged x).bus = s.bus ++ [x] := rfl
@[simp] theorem State.logged_cop (s : State) (x : BusAccess) :
    (s.logged x).cop = s.cop := rfl
@[simp] theorem State.logged_ranges (s : State) (x : BusAccess) :
    (s.logged x).ranges = s.ranges := rfl
@[simp] theorem State.logged_script (s : State) (x : BusAccess) :
    (s.logged x).script = s.script := rfl

@[simp] theorem State.begun_regs (s : State) :
    (s.begun).regs = s.regs := rfl
@[simp] theorem State.begun_pc (s : State) :
    (s.begun).pc = s.pc := rfl
@[simp] theorem State.begun_cpsr (s : State) :
    (s.begun).cpsr = s.cpsr := rfl
@[simp] theorem State.begun_spsr (s : State) :
    (s.begun).spsr = s.spsr := rfl
@[simp] theorem State.begun_psrRead (s : State) :
    (s.begun).psrRead = s.psrRead := rfl
@[simp] theorem State.begun_mem (s : State) :
    (s.begun).mem = s.mem := rfl
@[simp] theorem State.begun_dcc (s : State) :
    (s.begun).dcc = s.dcc := rfl
@[simp] theorem State.begun_ice (s : State) :
    (s.begun).ice = s.ice := rfl
@[simp] theorem State.begun_tap (s : State) :
    (s.begun).tap = s.tap := rfl
@[simp] theorem State.begun_dbg (s : State) :
    (s.begun).dbg = s.dbg := rfl
@[simp] theorem State.begun_usrLdm (s : State) :
    (s.begun).usrLdm = false := rfl
@[simp] theorem State.begun_waiting (s : State) :
    (s.begun).waiting = none := rfl
@[simp] theorem State.begun_fetchPriv (s : State) :
    (s.begun).fetchPriv = s.nextFetchPriv := rfl
@[simp] theorem State.begun_nextFetchPriv (s : State) :
    (s.begun).nextFetchPriv = s.isPriv := rfl
@[simp] theorem State.begun_free (s : State) :
    (s.begun).free = s.free := rfl
@[simp] theorem State.begun_env (s : State) :
    (s.begun).env = s.env := rfl
@[simp] theorem State.begun_bus (s : State) :
    (s.begun).bus = s.bus := rfl
@[simp] theorem State.begun_cop (s : State) :
    (s.begun).cop = s.cop := rfl
@[simp] theorem State.begun_ranges (s : State) :
    (s.begun).ranges = s.ranges := rfl
@[simp] theorem State.begun_script (s : State) :
    (s.begun).script = s.script := rfl

@[simp] theorem State.fresh_regs (s : State) :
    (s.fresh).regs = s.regs := rfl
@[simp] theorem State.fresh_pc (s : State) :
    (s.fresh).pc = s.pc := rfl
@[simp] theorem State.fresh_cpsr (s : State) :
    (s.fresh).cpsr = s.cpsr := rfl
@[simp] theorem State.fresh_spsr (s : State) :
    (s.fresh).spsr = s.spsr := rfl
@[simp] theorem State.fresh_psrRead (s : State) :
    (s.fresh).psrRead = s.psrRead := rfl
@[simp] theorem State.fresh_mem (s : State) :
    (s.fresh).mem = s.mem := rfl
@[simp] theorem State.fresh_dcc (s : State) :
    (s.fresh).dcc = s.dcc := rfl
@[simp] theorem State.fresh_ice (s : State) :
    (s.fresh).ice = s.ice := rfl
@[simp] theorem State.fresh_tap (s : State) :
    (s.fresh).tap = s.tap := rfl
@[simp] theorem State.fresh_dbg (s : State) :
    (s.fresh).dbg = s.dbg := rfl
@[simp] theorem State.fresh_usrLdm (s : State) :
    (s.fresh).usrLdm = s.usrLdm := rfl
@[simp] theorem State.fresh_waiting (s : State) :
    (s.fresh).waiting = s.waiting := rfl
@[simp] theorem State.fresh_fetchPriv (s : State) :
    (s.fresh).fetchPriv = s.fetchPriv := rfl
@[simp] theorem State.fresh_nextFetchPriv (s : State) :
    (s.fresh).nextFetchPriv = s.nextFetchPriv := rfl
@[simp] theorem State.fresh_free (s : State) :
    (s.fresh).free = s.free := rfl
@[simp] theorem State.fresh_env (s : State) :
    (s.fresh).env = s.env := rfl
@[simp] theorem State.fresh_bus (s : State) :
    (s.fresh).bus = [] := rfl
@[simp] theorem State.fresh_cop (s : State) :
    (s.fresh).cop = [] := rfl
@[simp] theorem State.fresh_ranges (s : State) :
    (s.fresh).ranges = [] := rfl
@[simp] theorem State.fresh_script (s : State) :
    (s.fresh).script = s.script := rfl

@[simp] theorem State.requested_regs (s : State) (o : CopOffer) (r : CopRule) (taken data : List Word) (b : Bool) :
    (s.requested o r taken data b).regs = s.regs := rfl
@[simp] theorem State.requested_pc (s : State) (o : CopOffer) (r : CopRule) (taken data : List Word) (b : Bool) :
    (s.requested o r taken data b).pc = s.pc := rfl
@[simp] theorem State.requested_cpsr (s : State) (o : CopOffer) (r : CopRule) (taken data : List Word) (b : Bool) :
    (s.requested o r taken data b).cpsr = s.cpsr := rfl
@[simp] theorem State.requested_spsr (s : State) (o : CopOffer) (r : CopRule) (taken data : List Word) (b : Bool) :
    (s.requested o r taken data b).spsr = s.spsr := rfl
@[simp] theorem State.requested_psrRead (s : State) (o : CopOffer) (r : CopRule) (taken data : List Word) (b : Bool) :
    (s.requested o r taken data b).psrRead = s.psrRead := rfl
@[simp] theorem State.requested_mem (s : State) (o : CopOffer) (r : CopRule) (taken data : List Word) (b : Bool) :
    (s.requested o r taken data b).mem = s.mem := rfl
@[simp] theorem State.requested_dcc (s : State) (o : CopOffer) (r : CopRule) (taken data : List Word) (b : Bool) :
    (s.requested o r taken data b).dcc = s.dcc := rfl
@[simp] theorem State.requested_ice (s : State) (o : CopOffer) (r : CopRule) (taken data : List Word) (b : Bool) :
    (s.requested o r taken data b).ice = s.ice := rfl
@[simp] theorem State.requested_tap (s : State) (o : CopOffer) (r : CopRule) (taken data : List Word) (b : Bool) :
    (s.requested o r taken data b).tap = s.tap := rfl
@[simp] theorem State.requested_dbg (s : State) (o : CopOffer) (r : CopRule) (taken data : List Word) (b : Bool) :
    (s.requested o r taken data b).dbg = s.dbg := rfl
@[simp] theorem State.requested_usrLdm (s : State) (o : CopOffer) (r : CopRule) (taken data : List Word) (b : Bool) :
    (s.requested o r taken data b).usrLdm = s.usrLdm := rfl
@[simp] theorem State.requested_waiting (s : State) (o : CopOffer) (r : CopRule) (taken data : List Word) (b : Bool) :
    (s.requested o r taken data b).waiting = s.waiting := rfl
@[simp] theorem State.requested_fetchPriv (s : State) (o : CopOffer) (r : CopRule) (taken data : List Word) (b : Bool) :
    (s.requested o r taken data b).fetchPriv = s.fetchPriv := rfl
@[simp] theorem State.requested_nextFetchPriv (s : State) (o : CopOffer) (r : CopRule) (taken data : List Word) (b : Bool) :
    (s.requested o r taken data b).nextFetchPriv = s.nextFetchPriv := rfl
@[simp] theorem State.requested_free (s : State) (o : CopOffer) (r : CopRule) (taken data : List Word) (b : Bool) :
    (s.requested o r taken data b).free = s.free := rfl
@[simp] theorem State.requested_env (s : State) (o : CopOffer) (r : CopRule) (taken data : List Word) (b : Bool) :
    (s.requested o r taken data b).env = s.env.withResponder o (fun p => p.executed r taken b) := rfl
@[simp] theorem State.requested_bus (s : State) (o : CopOffer) (r : CopRule) (taken data : List Word) (b : Bool) :
    (s.requested o r taken data b).bus = s.bus := rfl
@[simp] theorem State.requested_cop (s : State) (o : CopOffer) (r : CopRule) (taken data : List Word) (b : Bool) :
    (s.requested o r taken data b).cop = s.cop ++ [{ offer := o, data := data, aborted := b }] := rfl
@[simp] theorem State.requested_ranges (s : State) (o : CopOffer) (r : CopRule) (taken data : List Word) (b : Bool) :
    (s.requested o r taken data b).ranges = s.ranges := rfl
@[simp] theorem State.requested_script (s : State) (o : CopOffer) (r : CopRule) (taken data : List Word) (b : Bool) :
    (s.requested o r taken data b).script = s.script := rfl

@[simp] theorem State.exchange_regs (s : State) (v : Word) :
    (s.exchange v).regs = s.regs := rfl
@[simp] theorem State.exchange_pc (s : State) (v : Word) :
    (s.exchange v).pc = if v.getLsbD 0 then v &&& 0xFFFFFFFE#32 else v &&& 0xFFFFFFFC#32 := rfl
@[simp] theorem State.exchange_cpsr (s : State) (v : Word) :
    (s.exchange v).cpsr = { s.cpsr with t := v.getLsbD 0 } := rfl
@[simp] theorem State.exchange_spsr (s : State) (v : Word) :
    (s.exchange v).spsr = s.spsr := rfl
@[simp] theorem State.exchange_psrRead (s : State) (v : Word) :
    (s.exchange v).psrRead = s.psrRead := rfl
@[simp] theorem State.exchange_mem (s : State) (v : Word) :
    (s.exchange v).mem = s.mem := rfl
@[simp] theorem State.exchange_dcc (s : State) (v : Word) :
    (s.exchange v).dcc = s.dcc := rfl
@[simp] theorem State.exchange_ice (s : State) (v : Word) :
    (s.exchange v).ice = s.ice := rfl
@[simp] theorem State.exchange_tap (s : State) (v : Word) :
    (s.exchange v).tap = s.tap := rfl
@[simp] theorem State.exchange_dbg (s : State) (v : Word) :
    (s.exchange v).dbg = s.dbg := rfl
@[simp] theorem State.exchange_usrLdm (s : State) (v : Word) :
    (s.exchange v).usrLdm = s.usrLdm := rfl
@[simp] theorem State.exchange_waiting (s : State) (v : Word) :
    (s.exchange v).waiting = s.waiting := rfl
@[simp] theorem State.exchange_fetchPriv (s : State) (v : Word) :
    (s.exchange v).fetchPriv = s.isPriv := rfl
@[simp] theorem State.exchange_nextFetchPriv (s : State) (v : Word) :
    (s.exchange v).nextFetchPriv = s.isPriv := rfl
@[simp] theorem State.exchange_free (s : State) (v : Word) :
    (s.exchange v).free = s.free := rfl
@[simp] theorem State.exchange_env (s : State) (v : Word) :
    (s.exchange v).env = s.env := rfl
@[simp] theorem State.exchange_bus (s : State) (v : Word) :
    (s.exchange v).bus = s.bus := rfl
@[simp] theorem State.exchange_cop (s : State) (v : Word) :
    (s.exchange v).cop = s.cop := rfl
@[simp] theorem State.exchange_ranges (s : State) (v : Word) :
    (s.exchange v).ranges = s.ranges := rfl
@[simp] theorem State.exchange_script (s : State) (v : Word) :
    (s.exchange v).script = s.script := rfl

@[simp] theorem State.multiplyFlags_regs (s : State) (r : Word) :
    (s.multiplyFlags r).regs = s.regs := rfl
@[simp] theorem State.multiplyFlags_pc (s : State) (r : Word) :
    (s.multiplyFlags r).pc = s.pc := rfl
@[simp] theorem State.multiplyFlags_cpsr (s : State) (r : Word) :
    (s.multiplyFlags r).cpsr = { s.cpsr.withNz r with c := s.freeBit } := rfl
@[simp] theorem State.multiplyFlags_spsr (s : State) (r : Word) :
    (s.multiplyFlags r).spsr = s.spsr := rfl
@[simp] theorem State.multiplyFlags_psrRead (s : State) (r : Word) :
    (s.multiplyFlags r).psrRead = s.psrRead := rfl
@[simp] theorem State.multiplyFlags_mem (s : State) (r : Word) :
    (s.multiplyFlags r).mem = s.mem := rfl
@[simp] theorem State.multiplyFlags_dcc (s : State) (r : Word) :
    (s.multiplyFlags r).dcc = s.dcc := rfl
@[simp] theorem State.multiplyFlags_ice (s : State) (r : Word) :
    (s.multiplyFlags r).ice = s.ice := rfl
@[simp] theorem State.multiplyFlags_tap (s : State) (r : Word) :
    (s.multiplyFlags r).tap = s.tap := rfl
@[simp] theorem State.multiplyFlags_dbg (s : State) (r : Word) :
    (s.multiplyFlags r).dbg = s.dbg := rfl
@[simp] theorem State.multiplyFlags_usrLdm (s : State) (r : Word) :
    (s.multiplyFlags r).usrLdm = s.usrLdm := rfl
@[simp] theorem State.multiplyFlags_waiting (s : State) (r : Word) :
    (s.multiplyFlags r).waiting = s.waiting := rfl
@[simp] theorem State.multiplyFlags_fetchPriv (s : State) (r : Word) :
    (s.multiplyFlags r).fetchPriv = s.fetchPriv := rfl
@[simp] theorem State.multiplyFlags_nextFetchPriv (s : State) (r : Word) :
    (s.multiplyFlags r).nextFetchPriv = s.nextFetchPriv := rfl
@[simp] theorem State.multiplyFlags_free (s : State) (r : Word) :
    (s.multiplyFlags r).free = s.free + 1 := rfl
@[simp] theorem State.multiplyFlags_env (s : State) (r : Word) :
    (s.multiplyFlags r).env = s.env := rfl
@[simp] theorem State.multiplyFlags_bus (s : State) (r : Word) :
    (s.multiplyFlags r).bus = s.bus := rfl
@[simp] theorem State.multiplyFlags_cop (s : State) (r : Word) :
    (s.multiplyFlags r).cop = s.cop := rfl
@[simp] theorem State.multiplyFlags_ranges (s : State) (r : Word) :
    (s.multiplyFlags r).ranges = s.ranges := rfl
@[simp] theorem State.multiplyFlags_script (s : State) (r : Word) :
    (s.multiplyFlags r).script = s.script := rfl

@[simp] theorem State.synchronised_regs (s : State) :
    (s.synchronised).regs = s.regs := rfl
@[simp] theorem State.synchronised_pc (s : State) :
    (s.synchronised).pc = s.pc := rfl
@[simp] theorem State.synchronised_cpsr (s : State) :
    (s.synchronised).cpsr = s.cpsr := rfl
@[simp] theorem State.synchronised_spsr (s : State) :
    (s.synchronised).spsr = s.spsr := rfl
@[simp] theorem State.synchronised_psrRead (s : State) :
    (s.synchronised).psrRead = s.psrRead := rfl
@[simp] theorem State.synchronised_mem (s : State) :
    (s.synchronised).mem = s.mem := rfl
@[simp] theorem State.synchronised_dcc (s : State) :
    (s.synchronised).dcc = s.dcc := rfl
@[simp] theorem State.synchronised_ice (s : State) :
    (s.synchronised).ice = { s.ice with status := s.debugStatus } := rfl
@[simp] theorem State.synchronised_tap (s : State) :
    (s.synchronised).tap = s.tap := rfl
@[simp] theorem State.synchronised_dbg (s : State) :
    (s.synchronised).dbg = s.dbg := rfl
@[simp] theorem State.synchronised_usrLdm (s : State) :
    (s.synchronised).usrLdm = s.usrLdm := rfl
@[simp] theorem State.synchronised_waiting (s : State) :
    (s.synchronised).waiting = s.waiting := rfl
@[simp] theorem State.synchronised_fetchPriv (s : State) :
    (s.synchronised).fetchPriv = s.fetchPriv := rfl
@[simp] theorem State.synchronised_nextFetchPriv (s : State) :
    (s.synchronised).nextFetchPriv = s.nextFetchPriv := rfl
@[simp] theorem State.synchronised_free (s : State) :
    (s.synchronised).free = s.free := rfl
@[simp] theorem State.synchronised_env (s : State) :
    (s.synchronised).env = s.env := rfl
@[simp] theorem State.synchronised_bus (s : State) :
    (s.synchronised).bus = s.bus := rfl
@[simp] theorem State.synchronised_cop (s : State) :
    (s.synchronised).cop = s.cop := rfl
@[simp] theorem State.synchronised_ranges (s : State) :
    (s.synchronised).ranges = s.ranges := rfl
@[simp] theorem State.synchronised_script (s : State) :
    (s.synchronised).script = s.script := rfl

@[simp] theorem State.captureChain1_regs (s : State) :
    (s.captureChain1).regs = s.regs := rfl
@[simp] theorem State.captureChain1_pc (s : State) :
    (s.captureChain1).pc = s.pc := rfl
@[simp] theorem State.captureChain1_cpsr (s : State) :
    (s.captureChain1).cpsr = s.cpsr := rfl
@[simp] theorem State.captureChain1_spsr (s : State) :
    (s.captureChain1).spsr = s.spsr := rfl
@[simp] theorem State.captureChain1_psrRead (s : State) :
    (s.captureChain1).psrRead = s.psrRead := rfl
@[simp] theorem State.captureChain1_mem (s : State) :
    (s.captureChain1).mem = s.mem := rfl
@[simp] theorem State.captureChain1_dcc (s : State) :
    (s.captureChain1).dcc = s.dcc := rfl
@[simp] theorem State.captureChain1_ice (s : State) :
    (s.captureChain1).ice = s.ice := rfl
@[simp] theorem State.captureChain1_tap (s : State) :
    (s.captureChain1).tap = { s.tap with chain1 := BitVec.ofBool (s.dbg.bit33.getD s.freeBit) ++ s.dbg.bus.getD s.freeWord } := rfl
@[simp] theorem State.captureChain1_dbg (s : State) :
    (s.captureChain1).dbg = { s.dbg with bit33 := none } := rfl
@[simp] theorem State.captureChain1_usrLdm (s : State) :
    (s.captureChain1).usrLdm = s.usrLdm := rfl
@[simp] theorem State.captureChain1_waiting (s : State) :
    (s.captureChain1).waiting = s.waiting := rfl
@[simp] theorem State.captureChain1_fetchPriv (s : State) :
    (s.captureChain1).fetchPriv = s.fetchPriv := rfl
@[simp] theorem State.captureChain1_nextFetchPriv (s : State) :
    (s.captureChain1).nextFetchPriv = s.nextFetchPriv := rfl
@[simp] theorem State.captureChain1_free (s : State) :
    (s.captureChain1).free = s.free + 1 := rfl
@[simp] theorem State.captureChain1_env (s : State) :
    (s.captureChain1).env = s.env := rfl
@[simp] theorem State.captureChain1_bus (s : State) :
    (s.captureChain1).bus = s.bus := rfl
@[simp] theorem State.captureChain1_cop (s : State) :
    (s.captureChain1).cop = s.cop := rfl
@[simp] theorem State.captureChain1_ranges (s : State) :
    (s.captureChain1).ranges = s.ranges := rfl
@[simp] theorem State.captureChain1_script (s : State) :
    (s.captureChain1).script = s.script := rfl

@[simp] theorem State.captureChain1Extest_regs (s : State) :
    (s.captureChain1Extest).regs = s.regs := rfl
@[simp] theorem State.captureChain1Extest_pc (s : State) :
    (s.captureChain1Extest).pc = s.pc := rfl
@[simp] theorem State.captureChain1Extest_cpsr (s : State) :
    (s.captureChain1Extest).cpsr = s.cpsr := rfl
@[simp] theorem State.captureChain1Extest_spsr (s : State) :
    (s.captureChain1Extest).spsr = s.spsr := rfl
@[simp] theorem State.captureChain1Extest_psrRead (s : State) :
    (s.captureChain1Extest).psrRead = s.psrRead := rfl
@[simp] theorem State.captureChain1Extest_mem (s : State) :
    (s.captureChain1Extest).mem = s.mem := rfl
@[simp] theorem State.captureChain1Extest_dcc (s : State) :
    (s.captureChain1Extest).dcc = s.dcc := rfl
@[simp] theorem State.captureChain1Extest_ice (s : State) :
    (s.captureChain1Extest).ice = s.ice := rfl
@[simp] theorem State.captureChain1Extest_tap (s : State) :
    (s.captureChain1Extest).tap = { s.tap with chain1 := BitVec.ofBool s.freeBit ++ s.freeWord } := rfl
@[simp] theorem State.captureChain1Extest_dbg (s : State) :
    (s.captureChain1Extest).dbg = s.dbg := rfl
@[simp] theorem State.captureChain1Extest_usrLdm (s : State) :
    (s.captureChain1Extest).usrLdm = s.usrLdm := rfl
@[simp] theorem State.captureChain1Extest_waiting (s : State) :
    (s.captureChain1Extest).waiting = s.waiting := rfl
@[simp] theorem State.captureChain1Extest_fetchPriv (s : State) :
    (s.captureChain1Extest).fetchPriv = s.fetchPriv := rfl
@[simp] theorem State.captureChain1Extest_nextFetchPriv (s : State) :
    (s.captureChain1Extest).nextFetchPriv = s.nextFetchPriv := rfl
@[simp] theorem State.captureChain1Extest_free (s : State) :
    (s.captureChain1Extest).free = s.free + 1 := rfl
@[simp] theorem State.captureChain1Extest_env (s : State) :
    (s.captureChain1Extest).env = s.env := rfl
@[simp] theorem State.captureChain1Extest_bus (s : State) :
    (s.captureChain1Extest).bus = s.bus := rfl
@[simp] theorem State.captureChain1Extest_cop (s : State) :
    (s.captureChain1Extest).cop = s.cop := rfl
@[simp] theorem State.captureChain1Extest_ranges (s : State) :
    (s.captureChain1Extest).ranges = s.ranges := rfl
@[simp] theorem State.captureChain1Extest_script (s : State) :
    (s.captureChain1Extest).script = s.script := rfl

@[simp] theorem State.captureChain0_regs (s : State) :
    (s.captureChain0).regs = s.regs := rfl
@[simp] theorem State.captureChain0_pc (s : State) :
    (s.captureChain0).pc = s.pc := rfl
@[simp] theorem State.captureChain0_cpsr (s : State) :
    (s.captureChain0).cpsr = s.cpsr := rfl
@[simp] theorem State.captureChain0_spsr (s : State) :
    (s.captureChain0).spsr = s.spsr := rfl
@[simp] theorem State.captureChain0_psrRead (s : State) :
    (s.captureChain0).psrRead = s.psrRead := rfl
@[simp] theorem State.captureChain0_mem (s : State) :
    (s.captureChain0).mem = s.mem := rfl
@[simp] theorem State.captureChain0_dcc (s : State) :
    (s.captureChain0).dcc = s.dcc := rfl
@[simp] theorem State.captureChain0_ice (s : State) :
    (s.captureChain0).ice = s.ice := rfl
@[simp] theorem State.captureChain0_tap (s : State) :
    (s.captureChain0).tap = { s.tap with chain0 := s.chain0Cells } := rfl
@[simp] theorem State.captureChain0_dbg (s : State) :
    (s.captureChain0).dbg = s.dbg := rfl
@[simp] theorem State.captureChain0_usrLdm (s : State) :
    (s.captureChain0).usrLdm = s.usrLdm := rfl
@[simp] theorem State.captureChain0_waiting (s : State) :
    (s.captureChain0).waiting = s.waiting := rfl
@[simp] theorem State.captureChain0_fetchPriv (s : State) :
    (s.captureChain0).fetchPriv = s.fetchPriv := rfl
@[simp] theorem State.captureChain0_nextFetchPriv (s : State) :
    (s.captureChain0).nextFetchPriv = s.nextFetchPriv := rfl
@[simp] theorem State.captureChain0_free (s : State) :
    (s.captureChain0).free = s.free + 106 := rfl
@[simp] theorem State.captureChain0_env (s : State) :
    (s.captureChain0).env = s.env := rfl
@[simp] theorem State.captureChain0_bus (s : State) :
    (s.captureChain0).bus = s.bus := rfl
@[simp] theorem State.captureChain0_cop (s : State) :
    (s.captureChain0).cop = s.cop := rfl
@[simp] theorem State.captureChain0_ranges (s : State) :
    (s.captureChain0).ranges = s.ranges := rfl
@[simp] theorem State.captureChain0_script (s : State) :
    (s.captureChain0).script = s.script := rfl

@[simp] theorem State.leaveDebug_regs (s : State) :
    (s.leaveDebug).regs = s.regs := rfl
@[simp] theorem State.leaveDebug_pc (s : State) :
    (s.leaveDebug).pc = s.pc := rfl
@[simp] theorem State.leaveDebug_cpsr (s : State) :
    (s.leaveDebug).cpsr = s.cpsr := rfl
@[simp] theorem State.leaveDebug_spsr (s : State) :
    (s.leaveDebug).spsr = s.spsr := rfl
@[simp] theorem State.leaveDebug_psrRead (s : State) :
    (s.leaveDebug).psrRead = s.psrRead := rfl
@[simp] theorem State.leaveDebug_mem (s : State) :
    (s.leaveDebug).mem = s.mem := rfl
@[simp] theorem State.leaveDebug_dcc (s : State) :
    (s.leaveDebug).dcc = s.dcc := rfl
@[simp] theorem State.leaveDebug_ice (s : State) :
    (s.leaveDebug).ice = s.ice := rfl
@[simp] theorem State.leaveDebug_tap (s : State) :
    (s.leaveDebug).tap = s.tap := rfl
@[simp] theorem State.leaveDebug_dbg (s : State) :
    (s.leaveDebug).dbg = { Dbg.reset with watchHit := s.dbg.watchHit } := rfl
@[simp] theorem State.leaveDebug_usrLdm (s : State) :
    (s.leaveDebug).usrLdm = s.usrLdm := rfl
@[simp] theorem State.leaveDebug_waiting (s : State) :
    (s.leaveDebug).waiting = s.waiting := rfl
@[simp] theorem State.leaveDebug_fetchPriv (s : State) :
    (s.leaveDebug).fetchPriv = s.fetchPriv := rfl
@[simp] theorem State.leaveDebug_nextFetchPriv (s : State) :
    (s.leaveDebug).nextFetchPriv = s.nextFetchPriv := rfl
@[simp] theorem State.leaveDebug_free (s : State) :
    (s.leaveDebug).free = s.free := rfl
@[simp] theorem State.leaveDebug_env (s : State) :
    (s.leaveDebug).env = s.env := rfl
@[simp] theorem State.leaveDebug_bus (s : State) :
    (s.leaveDebug).bus = s.bus := rfl
@[simp] theorem State.leaveDebug_cop (s : State) :
    (s.leaveDebug).cop = s.cop := rfl
@[simp] theorem State.leaveDebug_ranges (s : State) :
    (s.leaveDebug).ranges = s.ranges := rfl
@[simp] theorem State.leaveDebug_script (s : State) :
    (s.leaveDebug).script = s.script := rfl

@[simp] theorem State.longMultiplyFlags_regs (s : State) (r : BitVec 64) :
    (s.longMultiplyFlags r).regs = s.regs := rfl
@[simp] theorem State.longMultiplyFlags_pc (s : State) (r : BitVec 64) :
    (s.longMultiplyFlags r).pc = s.pc := rfl
@[simp] theorem State.longMultiplyFlags_cpsr (s : State) (r : BitVec 64) :
    (s.longMultiplyFlags r).cpsr = { s.cpsr.withNz64 r with c := s.freeBit, v := s.drawn.freeBit } := rfl
@[simp] theorem State.longMultiplyFlags_spsr (s : State) (r : BitVec 64) :
    (s.longMultiplyFlags r).spsr = s.spsr := rfl
@[simp] theorem State.longMultiplyFlags_psrRead (s : State) (r : BitVec 64) :
    (s.longMultiplyFlags r).psrRead = s.psrRead := rfl
@[simp] theorem State.longMultiplyFlags_mem (s : State) (r : BitVec 64) :
    (s.longMultiplyFlags r).mem = s.mem := rfl
@[simp] theorem State.longMultiplyFlags_dcc (s : State) (r : BitVec 64) :
    (s.longMultiplyFlags r).dcc = s.dcc := rfl
@[simp] theorem State.longMultiplyFlags_ice (s : State) (r : BitVec 64) :
    (s.longMultiplyFlags r).ice = s.ice := rfl
@[simp] theorem State.longMultiplyFlags_tap (s : State) (r : BitVec 64) :
    (s.longMultiplyFlags r).tap = s.tap := rfl
@[simp] theorem State.longMultiplyFlags_dbg (s : State) (r : BitVec 64) :
    (s.longMultiplyFlags r).dbg = s.dbg := rfl
@[simp] theorem State.longMultiplyFlags_usrLdm (s : State) (r : BitVec 64) :
    (s.longMultiplyFlags r).usrLdm = s.usrLdm := rfl
@[simp] theorem State.longMultiplyFlags_waiting (s : State) (r : BitVec 64) :
    (s.longMultiplyFlags r).waiting = s.waiting := rfl
@[simp] theorem State.longMultiplyFlags_fetchPriv (s : State) (r : BitVec 64) :
    (s.longMultiplyFlags r).fetchPriv = s.fetchPriv := rfl
@[simp] theorem State.longMultiplyFlags_nextFetchPriv (s : State) (r : BitVec 64) :
    (s.longMultiplyFlags r).nextFetchPriv = s.nextFetchPriv := rfl
@[simp] theorem State.longMultiplyFlags_free (s : State) (r : BitVec 64) :
    (s.longMultiplyFlags r).free = s.free + 2 := rfl
@[simp] theorem State.longMultiplyFlags_env (s : State) (r : BitVec 64) :
    (s.longMultiplyFlags r).env = s.env := rfl
@[simp] theorem State.longMultiplyFlags_bus (s : State) (r : BitVec 64) :
    (s.longMultiplyFlags r).bus = s.bus := rfl
@[simp] theorem State.longMultiplyFlags_cop (s : State) (r : BitVec 64) :
    (s.longMultiplyFlags r).cop = s.cop := rfl
@[simp] theorem State.longMultiplyFlags_ranges (s : State) (r : BitVec 64) :
    (s.longMultiplyFlags r).ranges = s.ranges := rfl
@[simp] theorem State.longMultiplyFlags_script (s : State) (r : BitVec 64) :
    (s.longMultiplyFlags r).script = s.script := rfl

@[simp] theorem State.takeException_regs (s : State) (e : Exc) :
    (s.takeException e).regs = (s.setIn e.mode 14#4 (s.link e)).regs := rfl
@[simp] theorem State.takeException_pc (s : State) (e : Exc) :
    (s.takeException e).pc = e.vector &&& 0xFFFFFFFC#32 := rfl
@[simp] theorem State.takeException_cpsr (s : State) (e : Exc) :
    (s.takeException e).cpsr = { s.cpsr with m := e.mode.bits, t := false, i := true, f := s.cpsr.f || decide (e = .fiq) } := rfl
@[simp] theorem State.takeException_spsr (s : State) (e : Exc) :
    (s.takeException e).spsr = s.spsr.set e.mode s.cpsr := rfl
@[simp] theorem State.takeException_psrRead (s : State) (e : Exc) :
    (s.takeException e).psrRead = s.psrRead := rfl
@[simp] theorem State.takeException_mem (s : State) (e : Exc) :
    (s.takeException e).mem = s.mem := rfl
@[simp] theorem State.takeException_dcc (s : State) (e : Exc) :
    (s.takeException e).dcc = s.dcc := rfl
@[simp] theorem State.takeException_ice (s : State) (e : Exc) :
    (s.takeException e).ice = s.ice := rfl
@[simp] theorem State.takeException_tap (s : State) (e : Exc) :
    (s.takeException e).tap = s.tap := rfl
@[simp] theorem State.takeException_dbg (s : State) (e : Exc) :
    (s.takeException e).dbg = { s.dbg with entered := true } := rfl
@[simp] theorem State.takeException_usrLdm (s : State) (e : Exc) :
    (s.takeException e).usrLdm = false := rfl
@[simp] theorem State.takeException_waiting (s : State) (e : Exc) :
    (s.takeException e).waiting = none := rfl
@[simp] theorem State.takeException_fetchPriv (s : State) (e : Exc) :
    (s.takeException e).fetchPriv = decide (e.mode.bits ≠ Mode.usr.bits) := rfl
@[simp] theorem State.takeException_nextFetchPriv (s : State) (e : Exc) :
    (s.takeException e).nextFetchPriv = decide (e.mode.bits ≠ Mode.usr.bits) := rfl
@[simp] theorem State.takeException_free (s : State) (e : Exc) :
    (s.takeException e).free = s.free := rfl
@[simp] theorem State.takeException_env (s : State) (e : Exc) :
    (s.takeException e).env = s.env := rfl
@[simp] theorem State.takeException_bus (s : State) (e : Exc) :
    (s.takeException e).bus = s.bus := rfl
@[simp] theorem State.takeException_cop (s : State) (e : Exc) :
    (s.takeException e).cop = s.cop := rfl
@[simp] theorem State.takeException_ranges (s : State) (e : Exc) :
    (s.takeException e).ranges = s.ranges := rfl
@[simp] theorem State.takeException_script (s : State) (e : Exc) :
    (s.takeException e).script = s.script := rfl

@[simp] theorem State.enterDebug_regs (s : State) (k : Word) (b : Option Bool) :
    (s.enterDebug k b).regs = s.regs := rfl
@[simp] theorem State.enterDebug_pc (s : State) (k : Word) (b : Option Bool) :
    (s.enterDebug k b).pc = s.pc + k * s.len := rfl
@[simp] theorem State.enterDebug_cpsr (s : State) (k : Word) (b : Option Bool) :
    (s.enterDebug k b).cpsr = s.cpsr := rfl
@[simp] theorem State.enterDebug_spsr (s : State) (k : Word) (b : Option Bool) :
    (s.enterDebug k b).spsr = s.spsr := rfl
@[simp] theorem State.enterDebug_psrRead (s : State) (k : Word) (b : Option Bool) :
    (s.enterDebug k b).psrRead = s.psrRead := rfl
@[simp] theorem State.enterDebug_mem (s : State) (k : Word) (b : Option Bool) :
    (s.enterDebug k b).mem = s.mem := rfl
@[simp] theorem State.enterDebug_dcc (s : State) (k : Word) (b : Option Bool) :
    (s.enterDebug k b).dcc = s.dcc := rfl
@[simp] theorem State.enterDebug_ice (s : State) (k : Word) (b : Option Bool) :
    (s.enterDebug k b).ice = s.ice := rfl
@[simp] theorem State.enterDebug_tap (s : State) (k : Word) (b : Option Bool) :
    (s.enterDebug k b).tap = s.tap := rfl
@[simp] theorem State.enterDebug_dbg (s : State) (k : Word) (b : Option Bool) :
    (s.enterDebug k b).dbg = { Dbg.reset with inDebug := true, bit33 := b } := rfl
@[simp] theorem State.enterDebug_usrLdm (s : State) (k : Word) (b : Option Bool) :
    (s.enterDebug k b).usrLdm = false := rfl
@[simp] theorem State.enterDebug_waiting (s : State) (k : Word) (b : Option Bool) :
    (s.enterDebug k b).waiting = none := rfl
@[simp] theorem State.enterDebug_fetchPriv (s : State) (k : Word) (b : Option Bool) :
    (s.enterDebug k b).fetchPriv = s.fetchPriv := rfl
@[simp] theorem State.enterDebug_nextFetchPriv (s : State) (k : Word) (b : Option Bool) :
    (s.enterDebug k b).nextFetchPriv = s.nextFetchPriv := rfl
@[simp] theorem State.enterDebug_free (s : State) (k : Word) (b : Option Bool) :
    (s.enterDebug k b).free = s.free := rfl
@[simp] theorem State.enterDebug_env (s : State) (k : Word) (b : Option Bool) :
    (s.enterDebug k b).env = s.env := rfl
@[simp] theorem State.enterDebug_bus (s : State) (k : Word) (b : Option Bool) :
    (s.enterDebug k b).bus = s.bus := rfl
@[simp] theorem State.enterDebug_cop (s : State) (k : Word) (b : Option Bool) :
    (s.enterDebug k b).cop = s.cop := rfl
@[simp] theorem State.enterDebug_ranges (s : State) (k : Word) (b : Option Bool) :
    (s.enterDebug k b).ranges = s.ranges := rfl
@[simp] theorem State.enterDebug_script (s : State) (k : Word) (b : Option Bool) :
    (s.enterDebug k b).script = s.script := rfl

@[simp] theorem State.setIn_pc (s : State) (m : Mode) (n : Reg) (v : Word) : (s.setIn m n v).pc = s.pc := by unfold State.setIn; split <;> rfl
@[simp] theorem State.setIn_cpsr (s : State) (m : Mode) (n : Reg) (v : Word) : (s.setIn m n v).cpsr = s.cpsr := by unfold State.setIn; split <;> rfl
@[simp] theorem State.setIn_spsr (s : State) (m : Mode) (n : Reg) (v : Word) : (s.setIn m n v).spsr = s.spsr := by unfold State.setIn; split <;> rfl
@[simp] theorem State.setIn_psrRead (s : State) (m : Mode) (n : Reg) (v : Word) : (s.setIn m n v).psrRead = s.psrRead := by unfold State.setIn; split <;> rfl
@[simp] theorem State.setIn_mem (s : State) (m : Mode) (n : Reg) (v : Word) : (s.setIn m n v).mem = s.mem := by unfold State.setIn; split <;> rfl
@[simp] theorem State.setIn_dcc (s : State) (m : Mode) (n : Reg) (v : Word) : (s.setIn m n v).dcc = s.dcc := by unfold State.setIn; split <;> rfl
@[simp] theorem State.setIn_ice (s : State) (m : Mode) (n : Reg) (v : Word) : (s.setIn m n v).ice = s.ice := by unfold State.setIn; split <;> rfl
@[simp] theorem State.setIn_tap (s : State) (m : Mode) (n : Reg) (v : Word) : (s.setIn m n v).tap = s.tap := by unfold State.setIn; split <;> rfl
@[simp] theorem State.setIn_dbg (s : State) (m : Mode) (n : Reg) (v : Word) : (s.setIn m n v).dbg = s.dbg := by unfold State.setIn; split <;> rfl
@[simp] theorem State.setIn_usrLdm (s : State) (m : Mode) (n : Reg) (v : Word) : (s.setIn m n v).usrLdm = s.usrLdm := by unfold State.setIn; split <;> rfl
@[simp] theorem State.setIn_waiting (s : State) (m : Mode) (n : Reg) (v : Word) : (s.setIn m n v).waiting = s.waiting := by unfold State.setIn; split <;> rfl
@[simp] theorem State.setIn_fetchPriv (s : State) (m : Mode) (n : Reg) (v : Word) : (s.setIn m n v).fetchPriv = s.fetchPriv := by unfold State.setIn; split <;> rfl
@[simp] theorem State.setIn_nextFetchPriv (s : State) (m : Mode) (n : Reg) (v : Word) : (s.setIn m n v).nextFetchPriv = s.nextFetchPriv := by unfold State.setIn; split <;> rfl
@[simp] theorem State.setIn_free (s : State) (m : Mode) (n : Reg) (v : Word) : (s.setIn m n v).free = s.free := by unfold State.setIn; split <;> rfl
@[simp] theorem State.setIn_env (s : State) (m : Mode) (n : Reg) (v : Word) : (s.setIn m n v).env = s.env := by unfold State.setIn; split <;> rfl
@[simp] theorem State.setIn_bus (s : State) (m : Mode) (n : Reg) (v : Word) : (s.setIn m n v).bus = s.bus := by unfold State.setIn; split <;> rfl
@[simp] theorem State.setIn_cop (s : State) (m : Mode) (n : Reg) (v : Word) : (s.setIn m n v).cop = s.cop := by unfold State.setIn; split <;> rfl
@[simp] theorem State.setIn_ranges (s : State) (m : Mode) (n : Reg) (v : Word) : (s.setIn m n v).ranges = s.ranges := by unfold State.setIn; split <;> rfl
@[simp] theorem State.setIn_script (s : State) (m : Mode) (n : Reg) (v : Word) : (s.setIn m n v).script = s.script := by unfold State.setIn; split <;> rfl

@[simp] theorem State.setReg_pc (s : State) (n : Reg) (v : Word) : (s.setReg n v).pc = s.pc := State.setIn_pc ..
@[simp] theorem State.setReg_cpsr (s : State) (n : Reg) (v : Word) : (s.setReg n v).cpsr = s.cpsr := State.setIn_cpsr ..
@[simp] theorem State.setReg_spsr (s : State) (n : Reg) (v : Word) : (s.setReg n v).spsr = s.spsr := State.setIn_spsr ..
@[simp] theorem State.setReg_psrRead (s : State) (n : Reg) (v : Word) : (s.setReg n v).psrRead = s.psrRead := State.setIn_psrRead ..
@[simp] theorem State.setReg_mem (s : State) (n : Reg) (v : Word) : (s.setReg n v).mem = s.mem := State.setIn_mem ..
@[simp] theorem State.setReg_dcc (s : State) (n : Reg) (v : Word) : (s.setReg n v).dcc = s.dcc := State.setIn_dcc ..
@[simp] theorem State.setReg_ice (s : State) (n : Reg) (v : Word) : (s.setReg n v).ice = s.ice := State.setIn_ice ..
@[simp] theorem State.setReg_tap (s : State) (n : Reg) (v : Word) : (s.setReg n v).tap = s.tap := State.setIn_tap ..
@[simp] theorem State.setReg_dbg (s : State) (n : Reg) (v : Word) : (s.setReg n v).dbg = s.dbg := State.setIn_dbg ..
@[simp] theorem State.setReg_usrLdm (s : State) (n : Reg) (v : Word) : (s.setReg n v).usrLdm = s.usrLdm := State.setIn_usrLdm ..
@[simp] theorem State.setReg_waiting (s : State) (n : Reg) (v : Word) : (s.setReg n v).waiting = s.waiting := State.setIn_waiting ..
@[simp] theorem State.setReg_fetchPriv (s : State) (n : Reg) (v : Word) : (s.setReg n v).fetchPriv = s.fetchPriv := State.setIn_fetchPriv ..
@[simp] theorem State.setReg_nextFetchPriv (s : State) (n : Reg) (v : Word) : (s.setReg n v).nextFetchPriv = s.nextFetchPriv := State.setIn_nextFetchPriv ..
@[simp] theorem State.setReg_free (s : State) (n : Reg) (v : Word) : (s.setReg n v).free = s.free := State.setIn_free ..
@[simp] theorem State.setReg_env (s : State) (n : Reg) (v : Word) : (s.setReg n v).env = s.env := State.setIn_env ..
@[simp] theorem State.setReg_bus (s : State) (n : Reg) (v : Word) : (s.setReg n v).bus = s.bus := State.setIn_bus ..
@[simp] theorem State.setReg_cop (s : State) (n : Reg) (v : Word) : (s.setReg n v).cop = s.cop := State.setIn_cop ..
@[simp] theorem State.setReg_ranges (s : State) (n : Reg) (v : Word) : (s.setReg n v).ranges = s.ranges := State.setIn_ranges ..
@[simp] theorem State.setReg_script (s : State) (n : Reg) (v : Word) : (s.setReg n v).script = s.script := State.setIn_script ..

/-- A register write is a write of the register file alone. -/
theorem State.setReg_eq (s : State) (n : Reg) (v : Word) : s.setReg n v = { s with regs := (s.setReg n v).regs } := by
  simp only [State.setReg, State.setIn]; split <;> rfl

/-- As `State.setReg_eq` for a mode's view. -/
theorem State.setIn_eq (s : State) (m : Mode) (n : Reg) (v : Word) : s.setIn m n v = { s with regs := (s.setIn m n v).regs } := by
  simp only [State.setIn]; split <;> rfl

/-- The registers after a write do not depend on the rest of the state. -/
theorem State.setIn_regs (s t : State) (m : Mode) (n : Reg) (v : Word) (h : s.regs = t.regs) :
    (s.setIn m n v).regs = (t.setIn m n v).regs := by
  simp only [State.setIn]; split <;> simp [h]

/-- Bit k of scan chain 0 after a capture is cell k + 1. -/
theorem State.chain0Cells_getLsbD (s : State) (k : Nat) (h : k < 105) :
    s.chain0Cells.getLsbD k = s.chain0Cell (k + 1) := by
  unfold State.chain0Cells
  rw [BitVec.getLsbD_setWidth, BitVec.getLsbD_ofBoolListLE]
  simp [h]

/-! The return to debug state after a transfer at system speed, with and without an abort. -/

@[simp] theorem State.systemSpeedEnd_inDebug (t : State) : t.systemSpeedEnd.dbg.inDebug = true := by
  unfold State.systemSpeedEnd; split <;> rfl
@[simp] theorem State.systemSpeedEnd_bit33 (t : State) : t.systemSpeedEnd.dbg.bit33 = some true := by
  unfold State.systemSpeedEnd; split <;> rfl
@[simp] theorem State.systemSpeedEnd_watchHit (t : State) : t.systemSpeedEnd.dbg.watchHit = false := by
  unfold State.systemSpeedEnd; split <;> rfl
@[simp] theorem State.systemSpeedEnd_pipe (t : State) : t.systemSpeedEnd.dbg.pipe = [] := by
  unfold State.systemSpeedEnd; split <;> rfl
@[simp] theorem State.systemSpeedEnd_cpsr (t : State) : t.systemSpeedEnd.cpsr = t.cpsr := by
  unfold State.systemSpeedEnd; split <;> rfl
@[simp] theorem State.systemSpeedEnd_spsr (t : State) : t.systemSpeedEnd.spsr = t.spsr := by
  unfold State.systemSpeedEnd; split <;> rfl
@[simp] theorem State.systemSpeedEnd_mem (t : State) : t.systemSpeedEnd.mem = t.mem := by
  unfold State.systemSpeedEnd; split <;> rfl

/-- After an access that did not abort the core is as an entry to debug state that counts two slots leaves it. -/
theorem State.systemSpeedEnd_of_completed {t : State} (h : t.dbg.entered = false) :
    t.systemSpeedEnd = t.enterDebug 2 (some true) := by
  simp [State.systemSpeedEnd, h]

@[simp] theorem State.mode_begun (s : State) : s.begun.mode = s.mode := rfl
@[simp] theorem State.mode_drawn (s : State) : s.drawn.mode = s.mode := rfl
@[simp] theorem State.mode_logged (s : State) (x : BusAccess) : (s.logged x).mode = s.mode := rfl
@[simp] theorem State.isPriv_begun (s : State) : s.begun.isPriv = s.isPriv := rfl
@[simp] theorem State.len_begun (s : State) : s.begun.len = s.len := rfl
@[simp] theorem State.reg_begun (s : State) (n : Reg) : s.begun.reg n = s.reg n := rfl
@[simp] theorem State.regAhead_begun (s : State) (n : Reg) : s.begun.regAhead n = s.regAhead n := rfl
@[simp] theorem State.pcRead_begun (s : State) : s.begun.pcRead = s.pcRead := rfl
@[simp] theorem State.len_setReg (s : State) (n : Reg) (v : Word) : (s.setReg n v).len = s.len := by simp [State.len]
@[simp] theorem State.mode_setReg (s : State) (n : Reg) (v : Word) : (s.setReg n v).mode = s.mode := by simp [State.mode]
@[simp] theorem State.isPriv_setReg (s : State) (n : Reg) (v : Word) : (s.setReg n v).isPriv = s.isPriv := by
  simp [State.isPriv]

end Sys2Proof.Machine
end

