-- ==== Sys2Proof/Laws/Ops.lean ====
section
/-! SUPPORT. One lemma per shared operation that says everything it can do, for citing instead of unfolding it. -/

namespace Sys2Proof.Machine

/-! ## Registers -/

@[simp] theorem RegFile.get_set_same (f : RegFile) (p : PhysReg) (v : Word) : (f.set p v).get p = v := by cases p <;> rfl

theorem RegFile.get_set_other (f : RegFile) {p q : PhysReg} (h : q ≠ p) (v : Word) : (f.set p v).get q = f.get q := by
  cases p <;> cases q <;> first | rfl | exact absurd rfl h

theorem RegFile.get_set (f : RegFile) (p q : PhysReg) (v : Word) : (f.set p v).get q = if q = p then v else f.get q := by
  split
  · next h => rw [h, RegFile.get_set_same]
  · next h => exact RegFile.get_set_other f h v

/-- Every mode and number other than r15 names a physical register. -/
theorem phys_isSome (m : Mode) {n : Reg} (h : n ≠ 15#4) : (phys m n).isSome = true := by
  revert n; cases m <;> decide

/-- r15 names none. -/
theorem phys_pc (m : Mode) : phys m 15#4 = none := by cases m <;> rfl

/-- Two numbers of one mode name one register only if they are equal. -/
theorem phys_injective (m : Mode) {a b : Reg} (ha : a ≠ 15#4) (h : phys m a = phys m b) : a = b := by
  revert a b; cases m <;> decide

/-- Register writes in one mode's view: the written number reads as the value, every other one as before. -/
theorem State.regView_setIn (s : State) (m : Mode) {n : Reg} (hn : n ≠ 15#4) (v pcv : Word) (r : Reg) :
    (s.setIn m n v).regView m pcv r = if r = n then v else s.regView m pcv r := by
  obtain ⟨p, hp⟩ := Option.isSome_iff_exists.mp (phys_isSome m hn)
  simp only [State.setIn, hp, State.regView]
  by_cases h : r = n
  · subst h; simp [hp]
  · rw [if_neg h]
    cases hq : phys m r with
    | none => rfl
    | some q =>
      have hne : q ≠ p := fun e => h (phys_injective m (fun e' => by simp [e', phys_pc] at hq) (by rw [hq, hp, e]))
      simp [RegFile.get_set, hne]

/-! ## The program counter -/

/-- The advance either is refused, where it would wrap, or moves the program counter alone. -/
theorem State.advance_cases (s : State) :
    (2^32 ≤ s.pc.toNat + s.len.toNat ∧ s.dbg.inDebug = false ∧ s.advance = .refused .addressWrap) ∨
    (¬ (2^32 ≤ s.pc.toNat + s.len.toNat ∧ s.dbg.inDebug = false) ∧ s.advance = .next { s with pc := s.pc + s.len }) := by
  unfold State.advance; split
  · next h => exact .inl ⟨h.1, h.2, rfl⟩
  · next h => exact .inr ⟨h, rfl⟩

theorem State.advance_next {s t : State} (h : s.advance = .next t) : t = { s with pc := s.pc + s.len } := by
  rcases s.advance_cases with ⟨_, _, e⟩ | ⟨_, e⟩ <;> rw [e] at h <;> cases h; rfl

theorem State.advance_of {s : State} (h : s.dbg.inDebug = true ∨ s.pc.toNat + s.len.toNat < 2^32) :
    s.advance = .next { s with pc := s.pc + s.len } := by
  rcases s.advance_cases with ⟨h1, h2, _⟩ | ⟨_, e⟩
  · rcases h with h | h
    · simp [h] at h2
    · omega
  · exact e

theorem State.writeAndAdvance_next {s t : State} {n : Reg} {v : Word} (h : s.writeAndAdvance n v = .next t) :
    (n = 15#4 ∧ t = s.branchTo v) ∨ (n ≠ 15#4 ∧ t = { s.setReg n v with pc := s.pc + s.len }) := by
  unfold State.writeAndAdvance isPc at h
  split at h
  · next hn => cases h; exact .inl ⟨by simpa using hn, rfl⟩
  · next hn =>
    refine .inr ⟨by simpa using hn, ?_⟩
    simpa using State.advance_next h

/-- Two states in which an instruction sees the same registers and the same program counter. -/
structure SameView (s u : State) : Prop where
  regs : u.regs = s.regs
  pc : u.pc = s.pc
  m : u.cpsr.m = s.cpsr.m
  t : u.cpsr.t = s.cpsr.t
  inDebug : u.dbg.inDebug = s.dbg.inDebug

theorem SameView.mode {s u : State} (h : SameView s u) : u.mode = s.mode := by simp only [State.mode, h.m]

theorem SameView.isPriv {s u : State} (h : SameView s u) : u.isPriv = s.isPriv := by simp only [State.isPriv, h.m]

theorem SameView.len {s u : State} (h : SameView s u) : u.len = s.len := by simp only [State.len, h.t]

theorem SameView.reg {s u : State} (h : SameView s u) (n : Reg) : u.reg n = s.reg n := by
  simp only [State.reg, State.regView, State.pcRead, h.mode, h.regs, h.pc, h.len]

theorem SameView.setReg_regs {s u : State} (h : SameView s u) (n : Reg) (v : Word) :
    (u.setReg n v).regs = (s.setReg n v).regs := by
  rw [State.setReg, State.setReg, h.mode]; exact State.setIn_regs _ _ _ _ _ h.regs

/-- The advance of a state that sees what `s` sees. -/
theorem SameView.advance {s u : State} (h : SameView s u) (hr : s.dbg.inDebug = true ∨ s.pc.toNat + s.len.toNat < 2^32) :
    u.advance = .next { u with pc := s.pc + s.len } := by
  rw [State.advance_of (by rw [h.inDebug, h.pc, h.len]; exact hr), h.pc, h.len]

/-- A register write followed by the advance. -/
theorem SameView.setReg_advance {s u : State} (h : SameView s u) (n : Reg) (v : Word)
    (hr : s.dbg.inDebug = true ∨ s.pc.toNat + s.len.toNat < 2^32) :
    (u.setReg n v).advance = .next { u with regs := (s.setReg n v).regs, pc := s.pc + s.len } := by
  rw [State.advance_of (by simp only [State.setReg_dbg, State.setReg_pc, State.len_setReg, h.inDebug, h.pc, h.len]; exact hr)]
  rw [State.setReg_eq, h.setReg_regs, ← h.pc, ← h.len]
  rfl

/-- The return either is refused or restores the CPSR and branches. -/
theorem State.returnTo_cases (s : State) (v : Word) :
    (s.spsr.get s.mode = none ∧ s.returnTo v = .refused .noSpsr) ∨
    (∃ p, s.spsr.get s.mode = some p ∧ s.returnTo v = .next (({ s with cpsr := p } : State).branchTo v)) := by
  unfold State.returnTo
  cases s.spsr.get s.mode with
  | none => exact .inl ⟨rfl, rfl⟩
  | some p => exact .inr ⟨p, rfl, rfl⟩

/-! ## Memory accesses -/

/-- What a data read leaves: only the words fed at debug speed, the count of free values, the answers of devices still to
come and the record of accesses can change. -/
structure ReadFrame (s t : State) : Prop where
  eq : t = { s with dbg := { s.dbg with feed := t.dbg.feed }, free := t.free,
                    env := { s.env with devIn := t.env.devIn }, bus := t.bus }

theorem ReadFrame.refl (s : State) : ReadFrame s s := ⟨rfl⟩

theorem ReadFrame.trans {s t u : State} (h : ReadFrame s t) (g : ReadFrame t u) : ReadFrame s u := by
  constructor; rw [g.eq, h.eq]

theorem ReadFrame.logged {s t : State} (h : ReadFrame s t) (x : BusAccess) : ReadFrame s (t.logged x) := by
  constructor
  conv => lhs; rw [State.logged, h.eq]
  rfl

theorem ReadFrame.drawn (s : State) : ReadFrame s s.drawn := ⟨rfl⟩

theorem State.readValue_frame (s : State) (a : Word) (z : Size) : ReadFrame s (s.readValue a z).2.2 := by
  unfold State.readValue State.deviceRead
  split
  · split <;> exact ⟨rfl⟩
  · exact ⟨rfl⟩
  · exact ⟨rfl⟩

/-- A read is never refused; it gives a value or aborts, within the read frame. -/
theorem State.dataRead_cases (s : State) (a : Word) (z : Size) (priv lock : Bool) :
    (∃ v t, s.dataRead a z priv lock = .ok v t ∧ ReadFrame s t) ∨
    (∃ t, s.dataRead a z priv lock = .abort t ∧ ReadFrame s t ∧ s.dbg.feed = none) := by
  unfold State.dataRead; dsimp only
  cases hf : s.dbg.feed with
  | some ws => exact .inl ⟨_, _, rfl, ⟨rfl⟩⟩
  | none =>
    dsimp only
    split
    · exact .inr ⟨_, rfl, (ReadFrame.drawn s).logged _, rfl⟩
    · exact .inl ⟨_, _, rfl, (s.readValue_frame _ z).logged _⟩

/-- What a data write leaves: only memory, the words driven at debug speed and the record of accesses can change. -/
structure WriteFrame (s t : State) : Prop where
  eq : t = { s with mem := t.mem, dbg := { s.dbg with captured := t.dbg.captured }, bus := t.bus }
  wf : s.mem.wf = true → t.mem.wf = true

theorem WriteFrame.refl (s : State) : WriteFrame s s := ⟨rfl, id⟩

theorem WriteFrame.trans {s t u : State} (h : WriteFrame s t) (g : WriteFrame t u) : WriteFrame s u := by
  refine ⟨?_, fun w => g.wf (h.wf w)⟩
  rw [g.eq, h.eq]

/-- A write is done, aborts without touching memory, or is refused in the code window. -/
theorem State.dataWrite_cases (s : State) (a : Word) (z : Size) (v : Word) (priv lock : Bool) :
    (∃ t, s.dataWrite a z v priv lock = .ok () t ∧ WriteFrame s t) ∨
    (∃ t, s.dataWrite a z v priv lock = .abort t ∧ WriteFrame s t ∧ t.mem = s.mem ∧ s.dbg.feed = none) ∨
    s.dataWrite a z v priv lock = .refused .codeWindow := by
  unfold State.dataWrite; dsimp only
  cases hf : s.dbg.feed with
  | some ws => exact .inl ⟨_, rfl, by simp only [hf], id⟩
  | none =>
    dsimp only
    split
    · exact .inr (.inl ⟨_, rfl, ⟨rfl, id⟩, rfl, rfl⟩)
    · split
      · exact .inr (.inr rfl)
      · exact .inl ⟨_, rfl, rfl, fun w => State.stored_wf w _ z v⟩

/-- A burst of reads is never refused and stays within the read frame. -/
theorem State.readBurst_frame (priv : Bool) (k : Nat) (a : Word) (s : State) :
    ∃ vs ab t, State.readBurst priv k a s = .ok (vs, ab, t) ∧ ReadFrame s t ∧ (ab = false → vs.length = k) := by
  induction k generalizing a s with
  | zero => exact ⟨[], false, s, rfl, .refl s, fun _ => rfl⟩
  | succ k ih =>
    rcases s.dataRead_cases a .word priv false with ⟨v, t, e, f⟩ | ⟨t, e, f, _⟩
    · obtain ⟨vs, ab, u, e', f', l⟩ := ih (a + 4) t
      exact ⟨v :: vs, ab, u, by simp only [State.readBurst, e, e'], f.trans f', fun h => by simp [l h]⟩
    · obtain ⟨vs, ab, u, e', f', _⟩ := ih (a + 4) t
      exact ⟨[], true, u, by simp only [State.readBurst, e, e'], f.trans f', fun h => by simp at h⟩

/-- A burst of writes stays within the write frame, or is refused in the code window. -/
theorem State.writeBurst_frame (priv : Bool) (vs : List Word) (a : Word) (s : State) :
    (∃ ab t, State.writeBurst priv vs a s = .ok (ab, t) ∧ WriteFrame s t) ∨
    State.writeBurst priv vs a s = .error .codeWindow := by
  induction vs generalizing a s with
  | nil => exact .inl ⟨false, s, rfl, .refl s⟩
  | cons v vs ih =>
    rcases s.dataWrite_cases a .word v priv false with ⟨t, e, f⟩ | ⟨t, e, f, _, _⟩ | e
    · rcases ih (a + 4) t with ⟨ab, u, e', f'⟩ | e'
      · exact .inl ⟨ab, u, by simp only [State.writeBurst, e, e'], f.trans f'⟩
      · exact .inr (by simp only [State.writeBurst, e, e'])
    · rcases ih (a + 4) t with ⟨ab, u, e', f'⟩ | e'
      · exact .inl ⟨true, u, by simp only [State.writeBurst, e, e'], f.trans f'⟩
      · exact .inr (by simp only [State.writeBurst, e, e'])
    · exact .inr (by simp only [State.writeBurst, e])

/-! ## The gate -/

/-- Where the gate lets an instruction act, the instruction is its effect on the begun state. -/
theorem runArm_of {cond : Cond} {r : Option Restriction} {reads : List Reg} {s : State} (effect : State → Result)
    (hm : Mode.ofBits s.cpsr.m ≠ none) (hc : conditionPassed s.cpsr cond = true) (hr : r = none)
    (hz : s.hazard reads = false) : runArm cond r reads s effect = effect s.begun := by
  have hn : cond ≠ .nv := by rintro rfl; simp [conditionPassed] at hc
  subst hr
  simp [runArm, hm, hn, hc, hz]

/-- A next state comes from the advance of a failed condition or from the effect. -/
theorem runArm_next {cond : Cond} {r : Option Restriction} {reads : List Reg} {s t : State} {effect : State → Result}
    (h : runArm cond r reads s effect = .next t) :
    Mode.ofBits s.cpsr.m ≠ none ∧ cond ≠ .nv ∧
      ((conditionPassed s.cpsr cond = false ∧ s.begun.advance = .next t) ∨
       (conditionPassed s.cpsr cond = true ∧ r = none ∧ s.hazard reads = false ∧ effect s.begun = .next t)) := by
  unfold runArm at h
  split at h
  · cases h
  · next hm =>
    split at h
    · cases h
    · next hn =>
      refine ⟨hm, hn, ?_⟩
      split at h
      · next hc =>
        split at h
        · cases h
        · split at h
          · cases h
          · next hz => exact .inr ⟨hc, rfl, by simpa using hz, h⟩
      · next hc => exact .inl ⟨by simpa using hc, h⟩

end Sys2Proof.Machine
end

