-- ==== Sys2Proof/Laws/Effects.lean ====
section
/-! SUPPORT. The shared effects of the families: which effect an instruction has, and what an effect can do. -/

namespace Sys2Proof.Machine

/-- A well-formed instruction breaks no restriction. -/
theorem restriction_of_violation {i : Instr} (h : i.violation = none) : i.restriction = none := by
  unfold Instr.violation at h; split at h
  · cases h
  · simpa using h

/-! ## Data processing -/

/-- For an operation without destination S makes no difference. -/
theorem dpFinish_test {op : DpOp} (h : dpWrites op = false) (sf sf' : Bool) (rd : Reg) (a : Word) (b : Shifted) (s : State) :
    dpFinish op sf rd a b s = dpFinish op sf' rd a b s := by
  simp [dpFinish, h]

theorem exec_mkDpImm (op : DpOp) (cond : Cond) (sf : Bool) (rn rd : Reg) (rot : BitVec 4) (imm : BitVec 8) (s : State) :
    exec (mkDpImm op cond sf rn rd rot imm) s = dpImm op cond sf rn rd rot imm s := by
  cases op <;> rfl

theorem exec_mkDpShi (op : DpOp) (cond : Cond) (sf : Bool) (rn rd : Reg) (n : BitVec 5) (sh : ShiftType) (rm : Reg) (s : State) :
    exec (mkDpShi op cond sf rn rd n sh rm) s = dpShi op cond sf rn rd n sh rm s := by
  cases op <;> rfl

theorem exec_mkDpShr (op : DpOp) (cond : Cond) (sf : Bool) (rn rd rs : Reg) (sh : ShiftType) (rm : Reg) (s : State) :
    exec (mkDpShr op cond sf rn rd rs sh rm) s = dpShr op cond sf rn rd rs sh rm s := by
  cases op <;> rfl

theorem restriction_mkDpImm (op : DpOp) (cond : Cond) (sf : Bool) (rn rd : Reg) (rot : BitVec 4) (imm : BitVec 8) :
    (mkDpImm op cond sf rn rd rot imm).restriction = Restriction.dataProcessing op rn rd none := by cases op <;> rfl

theorem restriction_mkDpShi (op : DpOp) (cond : Cond) (sf : Bool) (rn rd : Reg) (n : BitVec 5) (sh : ShiftType) (rm : Reg) :
    (mkDpShi op cond sf rn rd n sh rm).restriction = Restriction.dataProcessing op rn rd none := by cases op <;> rfl

theorem restriction_mkDpShr (op : DpOp) (cond : Cond) (sf : Bool) (rn rd rs : Reg) (sh : ShiftType) (rm : Reg) :
    (mkDpShr op cond sf rn rd rs sh rm).restriction = Restriction.dataProcessing op rn rd (some rs) := by cases op <;> rfl

theorem cond_mkDpImm (op : DpOp) (cond : Cond) (sf : Bool) (rn rd : Reg) (rot : BitVec 4) (imm : BitVec 8) :
    (mkDpImm op cond sf rn rd rot imm).cond? = some cond := by cases op <;> rfl

theorem cond_mkDpShi (op : DpOp) (cond : Cond) (sf : Bool) (rn rd : Reg) (n : BitVec 5) (sh : ShiftType) (rm : Reg) :
    (mkDpShi op cond sf rn rd n sh rm).cond? = some cond := by cases op <;> rfl

theorem cond_mkDpShr (op : DpOp) (cond : Cond) (sf : Bool) (rn rd rs : Reg) (sh : ShiftType) (rm : Reg) :
    (mkDpShr op cond sf rn rd rs sh rm).cond? = some cond := by cases op <;> rfl

/-- What a data processing effect can do: flags and a register and the advance; a branch; or the return from an exception. -/
theorem dpFinish_next {op : DpOp} {sf : Bool} {rd : Reg} {a : Word} {b : Shifted} {s t : State}
    (h : dpFinish op sf rd a b s = .next t) :
    (∃ regs p, t = { s with regs := regs, cpsr := p, pc := s.pc + s.len } ∧ p.m = s.cpsr.m ∧ p.t = s.cpsr.t ∧ p.i = s.cpsr.i ∧
      p.f = s.cpsr.f ∧ p.reserved = s.cpsr.reserved ∧ (regs = s.regs ∨ ∃ v, regs = (s.setReg rd v).regs)) ∨
    (rd = 15#4 ∧ ∃ v, t = s.branchTo v) ∨
    (rd = 15#4 ∧ ∃ p v, s.spsr.get s.mode = some p ∧ t = ({ s with cpsr := p } : State).branchTo v) := by
  have hfl : ∀ (r : DpResult) (p : Psr) (c : Bool), (r.flags p c).m = p.m ∧ (r.flags p c).t = p.t ∧ (r.flags p c).i = p.i ∧
      (r.flags p c).f = p.f ∧ (r.flags p c).reserved = p.reserved := by
    intro r p c; cases r <;> exact ⟨rfl, rfl, rfl, rfl, rfl⟩
  unfold dpFinish at h; dsimp only at h
  split at h
  · split at h
    · split at h
      · next hp =>
        refine .inr (.inr ⟨by simpa [isPc] using hp, ?_⟩)
        rcases State.returnTo_cases s (dpCompute op a b.value s.cpsr.c).word with ⟨_, e⟩ | ⟨p, hp, e⟩
        · rw [e] at h; cases h
        · rw [e] at h; cases h; exact ⟨p, _, hp, rfl⟩
      · obtain ⟨h1, h2, h3, h4, h5⟩ := hfl (dpCompute op a b.value s.cpsr.c) s.cpsr b.carry
        have hm : ({ s with cpsr := (dpCompute op a b.value s.cpsr.c).flags s.cpsr b.carry } : State).mode = s.mode := by
          simp only [State.mode, h1]
        refine .inl ⟨(s.setReg rd (dpCompute op a b.value s.cpsr.c).word).regs,
          (dpCompute op a b.value s.cpsr.c).flags s.cpsr b.carry, ?_, h1, h2, h3, h4, h5, .inr ⟨_, rfl⟩⟩
        rw [State.advance_next h, State.setReg_eq, State.setReg, hm, State.setReg]
        simp only [State.len, h2]
        congr 1
        exact State.setIn_regs _ s _ _ _ rfl
    · rcases State.writeAndAdvance_next h with ⟨hp, e⟩ | ⟨_, e⟩
      · exact .inr (.inl ⟨hp, _, e⟩)
      · refine .inl ⟨(s.setReg rd (dpCompute op a b.value s.cpsr.c).word).regs, s.cpsr, ?_, rfl, rfl, rfl, rfl, rfl,
          .inr ⟨_, rfl⟩⟩
        rw [e, State.setReg_eq]
  · obtain ⟨h1, h2, h3, h4, h5⟩ := hfl (dpCompute op a b.value s.cpsr.c) s.cpsr b.carry
    refine .inl ⟨_, _, ?_, h1, h2, h3, h4, h5, .inl rfl⟩
    have := State.advance_next h
    rw [this]; simp only [State.len, h2]

/-! ## Coprocessors and the debug logic -/

/-- What the handshake can do: the trap, the refusal of the invalid response, the wait, or going on with the coprocessor that answers
and the rule by which it accepts. -/
theorem handshake_cases (i : Instr) (o : CopOffer) (s0 s : State) (present : CopPort → CopRule → Result) :
    handshake i o s0 s present = .next (s.takeException .und) ∨
    handshake i o s0 s present = .refused .coprocessorProtocol ∨
    handshake i o s0 s present = .next { s0 with env := s0.env.withResponder o CopPort.waited, waiting := some i } ∨
    ∃ p r, s.env.responder o = some p ∧ p.answer o = .present r ∧ handshake i o s0 s present = present p r := by
  unfold handshake
  cases h : s.env.responder o with
  | none => exact .inl rfl
  | some p =>
    dsimp only
    cases h' : p.answer o with
    | absent => exact .inl rfl
    | invalid => exact .inr (.inl rfl)
    | busy => exact .inr (.inr (.inl rfl))
    | present r => exact .inr (.inr (.inr ⟨p, r, rfl, h', rfl⟩))

/-- Comparing bus cycles changes the EmbeddedICE latches, the record of RANGEOUT and the count of free values alone. -/
theorem State.observeAll_frame (xs : List BusAccess) (s : State) :
    (State.observeAll xs s).2 =
      { s with
        ice := (State.observeAll xs s).2.ice
        ranges := (State.observeAll xs s).2.ranges
        free := (State.observeAll xs s).2.free } := by
  induction xs generalizing s with
  | nil => rfl
  | cons x xs ih =>
    have h : (s.observe x).2 =
        { s with ice := (s.observe x).2.ice, ranges := (s.observe x).2.ranges, free := (s.observe x).2.free } := by
      unfold State.observe; split <;> rfl
    simp only [State.observeAll]
    rw [ih, h]

end Sys2Proof.Machine
end

