-- ==== Sys2Proof/Laws/Gate.lean ====
section
/-! SUPPORT. The gate of every instruction: what `exec` does before an instruction's own effect. -/

namespace Sys2Proof.Machine

/-- The condition the gate tests: that of an ARM instruction; a Thumb instruction passes (rule R112). -/
def Instr.gateCond (i : Instr) : Cond :=
  match encode i with
  | .arm _ => i.cond?.getD .al
  | .thumb _ => .al

/-- The restriction the gate tests: LDC, STC and MCR are held to theirs only after the handshake. -/
def Instr.gateRestriction (i : Instr) : Option Restriction :=
  match i with
  | .ldc _ _ _ _ _ _ _ _ _ => none
  | .stc _ _ _ _ _ _ _ _ _ => none
  | .mcr _ _ _ _ _ _ _ => none
  | _ => i.restriction

set_option Elab.async false in
/-- Every instruction is the gate around an effect of its own. -/
theorem exec_gate (i : Instr) (s : State) :
    ∃ (reads : List Reg) (effect : State → Result),
      exec i s = runArm (Instr.gateCond i) (Instr.gateRestriction i) reads s effect := by
  cases i with
  | bx => exact ⟨_, _, by rw [exec, execBx]; rfl⟩
  | mul => exact ⟨_, _, by rw [exec, execMul]; rfl⟩
  | mla => exact ⟨_, _, by rw [exec, execMla]; rfl⟩
  | umull => exact ⟨_, _, by rw [exec, execUmull]; rfl⟩
  | umlal => exact ⟨_, _, by rw [exec, execUmlal]; rfl⟩
  | smull => exact ⟨_, _, by rw [exec, execSmull]; rfl⟩
  | smlal => exact ⟨_, _, by rw [exec, execSmlal]; rfl⟩
  | swp => exact ⟨_, _, by rw [exec, execSwp]; rfl⟩
  | swpb => exact ⟨_, _, by rw [exec, execSwpb]; rfl⟩
  | strhReg => exact ⟨_, _, by rw [exec, execStrhReg, storeOp]; rfl⟩
  | strhImm => exact ⟨_, _, by rw [exec, execStrhImm, storeOp]; rfl⟩
  | ldrhReg => exact ⟨_, _, by rw [exec, execLdrhReg, loadOp]; rfl⟩
  | ldrhImm => exact ⟨_, _, by rw [exec, execLdrhImm, loadOp]; rfl⟩
  | ldrsbReg => exact ⟨_, _, by rw [exec, execLdrsbReg, loadOp]; rfl⟩
  | ldrsbImm => exact ⟨_, _, by rw [exec, execLdrsbImm, loadOp]; rfl⟩
  | ldrshReg => exact ⟨_, _, by rw [exec, execLdrshReg, loadOp]; rfl⟩
  | ldrshImm => exact ⟨_, _, by rw [exec, execLdrshImm, loadOp]; rfl⟩
  | mrs => exact ⟨_, _, by rw [exec, execMrs]; rfl⟩
  | msrReg => exact ⟨_, _, by rw [exec, execMsrReg]; rfl⟩
  | msrImm => exact ⟨_, _, by rw [exec, execMsrImm]; rfl⟩
  | andImm => exact ⟨_, _, by rw [exec, execAndImm, dpImm]; rfl⟩
  | andShi => exact ⟨_, _, by rw [exec, execAndShi, dpShi]; rfl⟩
  | andShr => exact ⟨_, _, by rw [exec, execAndShr, dpShr]; rfl⟩
  | eorImm => exact ⟨_, _, by rw [exec, execEorImm, dpImm]; rfl⟩
  | eorShi => exact ⟨_, _, by rw [exec, execEorShi, dpShi]; rfl⟩
  | eorShr => exact ⟨_, _, by rw [exec, execEorShr, dpShr]; rfl⟩
  | subImm => exact ⟨_, _, by rw [exec, execSubImm, dpImm]; rfl⟩
  | subShi => exact ⟨_, _, by rw [exec, execSubShi, dpShi]; rfl⟩
  | subShr => exact ⟨_, _, by rw [exec, execSubShr, dpShr]; rfl⟩
  | rsbImm => exact ⟨_, _, by rw [exec, execRsbImm, dpImm]; rfl⟩
  | rsbShi => exact ⟨_, _, by rw [exec, execRsbShi, dpShi]; rfl⟩
  | rsbShr => exact ⟨_, _, by rw [exec, execRsbShr, dpShr]; rfl⟩
  | addImm => exact ⟨_, _, by rw [exec, execAddImm, dpImm]; rfl⟩
  | addShi => exact ⟨_, _, by rw [exec, execAddShi, dpShi]; rfl⟩
  | addShr => exact ⟨_, _, by rw [exec, execAddShr, dpShr]; rfl⟩
  | adcImm => exact ⟨_, _, by rw [exec, execAdcImm, dpImm]; rfl⟩
  | adcShi => exact ⟨_, _, by rw [exec, execAdcShi, dpShi]; rfl⟩
  | adcShr => exact ⟨_, _, by rw [exec, execAdcShr, dpShr]; rfl⟩
  | sbcImm => exact ⟨_, _, by rw [exec, execSbcImm, dpImm]; rfl⟩
  | sbcShi => exact ⟨_, _, by rw [exec, execSbcShi, dpShi]; rfl⟩
  | sbcShr => exact ⟨_, _, by rw [exec, execSbcShr, dpShr]; rfl⟩
  | rscImm => exact ⟨_, _, by rw [exec, execRscImm, dpImm]; rfl⟩
  | rscShi => exact ⟨_, _, by rw [exec, execRscShi, dpShi]; rfl⟩
  | rscShr => exact ⟨_, _, by rw [exec, execRscShr, dpShr]; rfl⟩
  | tstImm => exact ⟨_, _, by rw [exec, execTstImm, dpImm]; rfl⟩
  | tstShi => exact ⟨_, _, by rw [exec, execTstShi, dpShi]; rfl⟩
  | tstShr => exact ⟨_, _, by rw [exec, execTstShr, dpShr]; rfl⟩
  | teqImm => exact ⟨_, _, by rw [exec, execTeqImm, dpImm]; rfl⟩
  | teqShi => exact ⟨_, _, by rw [exec, execTeqShi, dpShi]; rfl⟩
  | teqShr => exact ⟨_, _, by rw [exec, execTeqShr, dpShr]; rfl⟩
  | cmpImm => exact ⟨_, _, by rw [exec, execCmpImm, dpImm]; rfl⟩
  | cmpShi => exact ⟨_, _, by rw [exec, execCmpShi, dpShi]; rfl⟩
  | cmpShr => exact ⟨_, _, by rw [exec, execCmpShr, dpShr]; rfl⟩
  | cmnImm => exact ⟨_, _, by rw [exec, execCmnImm, dpImm]; rfl⟩
  | cmnShi => exact ⟨_, _, by rw [exec, execCmnShi, dpShi]; rfl⟩
  | cmnShr => exact ⟨_, _, by rw [exec, execCmnShr, dpShr]; rfl⟩
  | orrImm => exact ⟨_, _, by rw [exec, execOrrImm, dpImm]; rfl⟩
  | orrShi => exact ⟨_, _, by rw [exec, execOrrShi, dpShi]; rfl⟩
  | orrShr => exact ⟨_, _, by rw [exec, execOrrShr, dpShr]; rfl⟩
  | movImm => exact ⟨_, _, by rw [exec, execMovImm, dpImm]; rfl⟩
  | movShi => exact ⟨_, _, by rw [exec, execMovShi, dpShi]; rfl⟩
  | movShr => exact ⟨_, _, by rw [exec, execMovShr, dpShr]; rfl⟩
  | bicImm => exact ⟨_, _, by rw [exec, execBicImm, dpImm]; rfl⟩
  | bicShi => exact ⟨_, _, by rw [exec, execBicShi, dpShi]; rfl⟩
  | bicShr => exact ⟨_, _, by rw [exec, execBicShr, dpShr]; rfl⟩
  | mvnImm => exact ⟨_, _, by rw [exec, execMvnImm, dpImm]; rfl⟩
  | mvnShi => exact ⟨_, _, by rw [exec, execMvnShi, dpShi]; rfl⟩
  | mvnShr => exact ⟨_, _, by rw [exec, execMvnShr, dpShr]; rfl⟩
  | ldrImm => exact ⟨_, _, by rw [exec, execLdrImm, loadOp]; rfl⟩
  | ldrImmPost => exact ⟨_, _, by rw [exec, execLdrImmPost, loadOp]; rfl⟩
  | ldrReg => exact ⟨_, _, by rw [exec, execLdrReg, loadOp]; rfl⟩
  | ldrRegPost => exact ⟨_, _, by rw [exec, execLdrRegPost, loadOp]; rfl⟩
  | ldrbImm => exact ⟨_, _, by rw [exec, execLdrbImm, loadOp]; rfl⟩
  | ldrbImmPost => exact ⟨_, _, by rw [exec, execLdrbImmPost, loadOp]; rfl⟩
  | ldrbReg => exact ⟨_, _, by rw [exec, execLdrbReg, loadOp]; rfl⟩
  | ldrbRegPost => exact ⟨_, _, by rw [exec, execLdrbRegPost, loadOp]; rfl⟩
  | strImm => exact ⟨_, _, by rw [exec, execStrImm, storeOp]; rfl⟩
  | strImmPost => exact ⟨_, _, by rw [exec, execStrImmPost, storeOp]; rfl⟩
  | strReg => exact ⟨_, _, by rw [exec, execStrReg, storeOp]; rfl⟩
  | strRegPost => exact ⟨_, _, by rw [exec, execStrRegPost, storeOp]; rfl⟩
  | strbImm => exact ⟨_, _, by rw [exec, execStrbImm, storeOp]; rfl⟩
  | strbImmPost => exact ⟨_, _, by rw [exec, execStrbImmPost, storeOp]; rfl⟩
  | strbReg => exact ⟨_, _, by rw [exec, execStrbReg, storeOp]; rfl⟩
  | strbRegPost => exact ⟨_, _, by rw [exec, execStrbRegPost, storeOp]; rfl⟩
  | ldrtImm => exact ⟨_, _, by rw [exec, execLdrtImm, loadOp]; rfl⟩
  | ldrtReg => exact ⟨_, _, by rw [exec, execLdrtReg, loadOp]; rfl⟩
  | ldrbtImm => exact ⟨_, _, by rw [exec, execLdrbtImm, loadOp]; rfl⟩
  | ldrbtReg => exact ⟨_, _, by rw [exec, execLdrbtReg, loadOp]; rfl⟩
  | strtImm => exact ⟨_, _, by rw [exec, execStrtImm, storeOp]; rfl⟩
  | strtReg => exact ⟨_, _, by rw [exec, execStrtReg, storeOp]; rfl⟩
  | strbtImm => exact ⟨_, _, by rw [exec, execStrbtImm, storeOp]; rfl⟩
  | strbtReg => exact ⟨_, _, by rw [exec, execStrbtReg, storeOp]; rfl⟩
  | undefined => exact ⟨_, _, by rw [exec, execUndefined]; rfl⟩
  | ldmia => exact ⟨_, _, by rw [exec, execLdmia, loadMultiple]; rfl⟩
  | ldmib => exact ⟨_, _, by rw [exec, execLdmib, loadMultiple]; rfl⟩
  | ldmda => exact ⟨_, _, by rw [exec, execLdmda, loadMultiple]; rfl⟩
  | ldmdb => exact ⟨_, _, by rw [exec, execLdmdb, loadMultiple]; rfl⟩
  | stmia => exact ⟨_, _, by rw [exec, execStmia, storeMultiple]; rfl⟩
  | stmib => exact ⟨_, _, by rw [exec, execStmib, storeMultiple]; rfl⟩
  | stmda => exact ⟨_, _, by rw [exec, execStmda, storeMultiple]; rfl⟩
  | stmdb => exact ⟨_, _, by rw [exec, execStmdb, storeMultiple]; rfl⟩
  | b => exact ⟨_, _, by rw [exec, execB]; rfl⟩
  | bl => exact ⟨_, _, by rw [exec, execBl]; rfl⟩
  | ldc => exact ⟨_, _, by rw [exec, execLdc]; rfl⟩
  | stc => exact ⟨_, _, by rw [exec, execStc]; rfl⟩
  | cdp => exact ⟨_, _, by rw [exec, execCdp]; rfl⟩
  | mcr => exact ⟨_, _, by rw [exec, execMcr]; rfl⟩
  | mrc => exact ⟨_, _, by rw [exec, execMrc]; rfl⟩
  | swi => exact ⟨_, _, by rw [exec, execSwi]; rfl⟩
  | tLslImm => exact ⟨_, _, by rw [exec, execTLslImm, thumbAlu, runThumb]; rfl⟩
  | tLsrImm => exact ⟨_, _, by rw [exec, execTLsrImm, thumbAlu, runThumb]; rfl⟩
  | tAsrImm => exact ⟨_, _, by rw [exec, execTAsrImm, thumbAlu, runThumb]; rfl⟩
  | tAddReg => exact ⟨_, _, by rw [exec, execTAddReg, thumbAlu, runThumb]; rfl⟩
  | tSubReg => exact ⟨_, _, by rw [exec, execTSubReg, thumbAlu, runThumb]; rfl⟩
  | tAddImm3 => exact ⟨_, _, by rw [exec, execTAddImm3, thumbAlu, runThumb]; rfl⟩
  | tSubImm3 => exact ⟨_, _, by rw [exec, execTSubImm3, thumbAlu, runThumb]; rfl⟩
  | tMovImm => exact ⟨_, _, by rw [exec, execTMovImm, thumbAlu, runThumb]; rfl⟩
  | tCmpImm => exact ⟨_, _, by rw [exec, execTCmpImm, thumbAlu, runThumb]; rfl⟩
  | tAddImm8 => exact ⟨_, _, by rw [exec, execTAddImm8, thumbAlu, runThumb]; rfl⟩
  | tSubImm8 => exact ⟨_, _, by rw [exec, execTSubImm8, thumbAlu, runThumb]; rfl⟩
  | tAnd => exact ⟨_, _, by rw [exec, execTAnd, thumbAlu, runThumb]; rfl⟩
  | tEor => exact ⟨_, _, by rw [exec, execTEor, thumbAlu, runThumb]; rfl⟩
  | tLslReg => exact ⟨_, _, by rw [exec, execTLslReg, thumbAlu, runThumb]; rfl⟩
  | tLsrReg => exact ⟨_, _, by rw [exec, execTLsrReg, thumbAlu, runThumb]; rfl⟩
  | tAsrReg => exact ⟨_, _, by rw [exec, execTAsrReg, thumbAlu, runThumb]; rfl⟩
  | tAdc => exact ⟨_, _, by rw [exec, execTAdc, thumbAlu, runThumb]; rfl⟩
  | tSbc => exact ⟨_, _, by rw [exec, execTSbc, thumbAlu, runThumb]; rfl⟩
  | tRorReg => exact ⟨_, _, by rw [exec, execTRorReg, thumbAlu, runThumb]; rfl⟩
  | tTst => exact ⟨_, _, by rw [exec, execTTst, thumbAlu, runThumb]; rfl⟩
  | tNeg => exact ⟨_, _, by rw [exec, execTNeg, thumbAlu, runThumb]; rfl⟩
  | tCmpReg => exact ⟨_, _, by rw [exec, execTCmpReg, thumbAlu, runThumb]; rfl⟩
  | tCmn => exact ⟨_, _, by rw [exec, execTCmn, thumbAlu, runThumb]; rfl⟩
  | tOrr => exact ⟨_, _, by rw [exec, execTOrr, thumbAlu, runThumb]; rfl⟩
  | tMul => exact ⟨_, _, by rw [exec, execTMul, runThumb]; rfl⟩
  | tBic => exact ⟨_, _, by rw [exec, execTBic, thumbAlu, runThumb]; rfl⟩
  | tMvn => exact ⟨_, _, by rw [exec, execTMvn, thumbAlu, runThumb]; rfl⟩
  | tAddHi => exact ⟨_, _, by rw [exec, execTAddHi, runThumb]; rfl⟩
  | tCmpHi => exact ⟨_, _, by rw [exec, execTCmpHi, runThumb]; rfl⟩
  | tMovHi => exact ⟨_, _, by rw [exec, execTMovHi, runThumb]; rfl⟩
  | tBx => exact ⟨_, _, by rw [exec, execTBx, runThumb]; rfl⟩
  | tLdrPc => exact ⟨_, _, by rw [exec, execTLdrPc, thumbLoad, runThumb]; rfl⟩
  | tStrReg => exact ⟨_, _, by rw [exec, execTStrReg, thumbStore, runThumb]; rfl⟩
  | tStrhReg => exact ⟨_, _, by rw [exec, execTStrhReg, thumbStore, runThumb]; rfl⟩
  | tStrbReg => exact ⟨_, _, by rw [exec, execTStrbReg, thumbStore, runThumb]; rfl⟩
  | tLdrsbReg => exact ⟨_, _, by rw [exec, execTLdrsbReg, thumbLoad, runThumb]; rfl⟩
  | tLdrReg => exact ⟨_, _, by rw [exec, execTLdrReg, thumbLoad, runThumb]; rfl⟩
  | tLdrhReg => exact ⟨_, _, by rw [exec, execTLdrhReg, thumbLoad, runThumb]; rfl⟩
  | tLdrbReg => exact ⟨_, _, by rw [exec, execTLdrbReg, thumbLoad, runThumb]; rfl⟩
  | tLdrshReg => exact ⟨_, _, by rw [exec, execTLdrshReg, thumbLoad, runThumb]; rfl⟩
  | tStrImm => exact ⟨_, _, by rw [exec, execTStrImm, thumbStore, runThumb]; rfl⟩
  | tLdrImm => exact ⟨_, _, by rw [exec, execTLdrImm, thumbLoad, runThumb]; rfl⟩
  | tStrbImm => exact ⟨_, _, by rw [exec, execTStrbImm, thumbStore, runThumb]; rfl⟩
  | tLdrbImm => exact ⟨_, _, by rw [exec, execTLdrbImm, thumbLoad, runThumb]; rfl⟩
  | tStrhImm => exact ⟨_, _, by rw [exec, execTStrhImm, thumbStore, runThumb]; rfl⟩
  | tLdrhImm => exact ⟨_, _, by rw [exec, execTLdrhImm, thumbLoad, runThumb]; rfl⟩
  | tStrSp => exact ⟨_, _, by rw [exec, execTStrSp, thumbStore, runThumb]; rfl⟩
  | tLdrSp => exact ⟨_, _, by rw [exec, execTLdrSp, thumbLoad, runThumb]; rfl⟩
  | tAddPc => exact ⟨_, _, by rw [exec, execTAddPc, runThumb]; rfl⟩
  | tAddSp => exact ⟨_, _, by rw [exec, execTAddSp, runThumb]; rfl⟩
  | tIncSp => exact ⟨_, _, by rw [exec, execTIncSp, runThumb]; rfl⟩
  | tDecSp => exact ⟨_, _, by rw [exec, execTDecSp, runThumb]; rfl⟩
  | tPush => exact ⟨_, _, by rw [exec, execTPush, runThumb]; rfl⟩
  | tPop => exact ⟨_, _, by rw [exec, execTPop, runThumb]; rfl⟩
  | tStmia => exact ⟨_, _, by rw [exec, execTStmia, runThumb]; rfl⟩
  | tLdmia => exact ⟨_, _, by rw [exec, execTLdmia, runThumb]; rfl⟩
  | tBeq => exact ⟨_, _, by rw [exec, execTBeq, thumbBranch, runThumb]; rfl⟩
  | tBne => exact ⟨_, _, by rw [exec, execTBne, thumbBranch, runThumb]; rfl⟩
  | tBcs => exact ⟨_, _, by rw [exec, execTBcs, thumbBranch, runThumb]; rfl⟩
  | tBcc => exact ⟨_, _, by rw [exec, execTBcc, thumbBranch, runThumb]; rfl⟩
  | tBmi => exact ⟨_, _, by rw [exec, execTBmi, thumbBranch, runThumb]; rfl⟩
  | tBpl => exact ⟨_, _, by rw [exec, execTBpl, thumbBranch, runThumb]; rfl⟩
  | tBvs => exact ⟨_, _, by rw [exec, execTBvs, thumbBranch, runThumb]; rfl⟩
  | tBvc => exact ⟨_, _, by rw [exec, execTBvc, thumbBranch, runThumb]; rfl⟩
  | tBhi => exact ⟨_, _, by rw [exec, execTBhi, thumbBranch, runThumb]; rfl⟩
  | tBls => exact ⟨_, _, by rw [exec, execTBls, thumbBranch, runThumb]; rfl⟩
  | tBge => exact ⟨_, _, by rw [exec, execTBge, thumbBranch, runThumb]; rfl⟩
  | tBlt => exact ⟨_, _, by rw [exec, execTBlt, thumbBranch, runThumb]; rfl⟩
  | tBgt => exact ⟨_, _, by rw [exec, execTBgt, thumbBranch, runThumb]; rfl⟩
  | tBle => exact ⟨_, _, by rw [exec, execTBle, thumbBranch, runThumb]; rfl⟩
  | tUndefined => exact ⟨_, _, by rw [exec, execTUndefined, runThumb]; rfl⟩
  | tSwi => exact ⟨_, _, by rw [exec, execTSwi, runThumb]; rfl⟩
  | tB => exact ⟨_, _, by rw [exec, execTB, runThumb]; rfl⟩
  | tBlHi => exact ⟨_, _, by rw [exec, execTBlHi, runThumb]; rfl⟩
  | tBlLo => exact ⟨_, _, by rw [exec, execTBlLo, runThumb]; rfl⟩

end Sys2Proof.Machine
end

