-- ==== Sys2Proof/Laws/PerInstr.lean ====
section
/-! SUPPORT. The per-instruction family Encodes: the code of an instruction fits the width of its set; and the small facts about
field codes that proofs over encodings use. -/

namespace Sys2Proof.Laws

set_option Elab.async false

theorem cond_code_lt (c : Cond) : c.code < 16 := by cases c <;> decide
theorem shift_code_lt (t : ShiftType) : t.code < 4 := by cases t <;> decide
theorem bool_toNat_lt (b : Bool) : b.toNat < 2 := by cases b <;> decide
theorem cond_ofCode_code (c : Cond) : Cond.ofCode c.code = c := by cases c <;> rfl
theorem shift_ofCode_code (t : ShiftType) : ShiftType.ofCode t.code = t := by cases t <;> rfl

/-- The code of an instruction fits its width: 32 bits for ARM, 16 for Thumb. -/
def Encodes.Statement (i : Instr) : Prop :=
  match encode i with
  | .arm n => n < 2^32
  | .thumb n => n < 2^16

theorem Encodes.bx (cond : Cond) (rm : Reg) : Encodes.Statement (.bx cond rm) := by
  have h := And.intro trivial (⟨cond_code_lt cond, rm.isLt⟩ : _ ∧ _)
  simp only [Encodes.Statement, encode, pack]; omega

theorem Encodes.mul (cond : Cond) (s : Bool) (rd : Reg) (rn : Reg) (rs : Reg) (rm : Reg) : Encodes.Statement (.mul cond s rd rn rs rm) := by
  have h := And.intro trivial (⟨cond_code_lt cond, bool_toNat_lt s, rd.isLt, rn.isLt, rs.isLt, rm.isLt⟩ : _ ∧ _ ∧ _ ∧ _ ∧ _ ∧ _)
  simp only [Encodes.Statement, encode, pack]; omega

theorem Encodes.mla (cond : Cond) (s : Bool) (rd : Reg) (rn : Reg) (rs : Reg) (rm : Reg) : Encodes.Statement (.mla cond s rd rn rs rm) := by
  have h := And.intro trivial (⟨cond_code_lt cond, bool_toNat_lt s, rd.isLt, rn.isLt, rs.isLt, rm.isLt⟩ : _ ∧ _ ∧ _ ∧ _ ∧ _ ∧ _)
  simp only [Encodes.Statement, encode, pack]; omega

theorem Encodes.umull (cond : Cond) (s : Bool) (rdHi : Reg) (rdLo : Reg) (rs : Reg) (rm : Reg) : Encodes.Statement (.umull cond s rdHi rdLo rs rm) := by
  have h := And.intro trivial (⟨cond_code_lt cond, bool_toNat_lt s, rdHi.isLt, rdLo.isLt, rs.isLt, rm.isLt⟩ : _ ∧ _ ∧ _ ∧ _ ∧ _ ∧ _)
  simp only [Encodes.Statement, encode, pack]; omega

theorem Encodes.umlal (cond : Cond) (s : Bool) (rdHi : Reg) (rdLo : Reg) (rs : Reg) (rm : Reg) : Encodes.Statement (.umlal cond s rdHi rdLo rs rm) := by
  have h := And.intro trivial (⟨cond_code_lt cond, bool_toNat_lt s, rdHi.isLt, rdLo.isLt, rs.isLt, rm.isLt⟩ : _ ∧ _ ∧ _ ∧ _ ∧ _ ∧ _)
  simp only [Encodes.Statement, encode, pack]; omega

theorem Encodes.smull (cond : Cond) (s : Bool) (rdHi : Reg) (rdLo : Reg) (rs : Reg) (rm : Reg) : Encodes.Statement (.smull cond s rdHi rdLo rs rm) := by
  have h := And.intro trivial (⟨cond_code_lt cond, bool_toNat_lt s, rdHi.isLt, rdLo.isLt, rs.isLt, rm.isLt⟩ : _ ∧ _ ∧ _ ∧ _ ∧ _ ∧ _)
  simp only [Encodes.Statement, encode, pack]; omega

theorem Encodes.smlal (cond : Cond) (s : Bool) (rdHi : Reg) (rdLo : Reg) (rs : Reg) (rm : Reg) : Encodes.Statement (.smlal cond s rdHi rdLo rs rm) := by
  have h := And.intro trivial (⟨cond_code_lt cond, bool_toNat_lt s, rdHi.isLt, rdLo.isLt, rs.isLt, rm.isLt⟩ : _ ∧ _ ∧ _ ∧ _ ∧ _ ∧ _)
  simp only [Encodes.Statement, encode, pack]; omega

theorem Encodes.swp (cond : Cond) (rn : Reg) (rd : Reg) (rm : Reg) : Encodes.Statement (.swp cond rn rd rm) := by
  have h := And.intro trivial (⟨cond_code_lt cond, rn.isLt, rd.isLt, rm.isLt⟩ : _ ∧ _ ∧ _ ∧ _)
  simp only [Encodes.Statement, encode, pack]; omega

theorem Encodes.swpb (cond : Cond) (rn : Reg) (rd : Reg) (rm : Reg) : Encodes.Statement (.swpb cond rn rd rm) := by
  have h := And.intro trivial (⟨cond_code_lt cond, rn.isLt, rd.isLt, rm.isLt⟩ : _ ∧ _ ∧ _ ∧ _)
  simp only [Encodes.Statement, encode, pack]; omega

theorem Encodes.strhReg (cond : Cond) (p : Bool) (u : Bool) (w : Bool) (rn : Reg) (rd : Reg) (rm : Reg) : Encodes.Statement (.strhReg cond p u w rn rd rm) := by
  have h := And.intro trivial (⟨cond_code_lt cond, bool_toNat_lt p, bool_toNat_lt u, bool_toNat_lt w, rn.isLt, rd.isLt, rm.isLt⟩ : _ ∧ _ ∧ _ ∧ _ ∧ _ ∧ _ ∧ _)
  simp only [Encodes.Statement, encode, pack]; omega

theorem Encodes.strhImm (cond : Cond) (p : Bool) (u : Bool) (w : Bool) (rn : Reg) (rd : Reg) (off : BitVec 8) : Encodes.Statement (.strhImm cond p u w rn rd off) := by
  have h := And.intro trivial (⟨cond_code_lt cond, bool_toNat_lt p, bool_toNat_lt u, bool_toNat_lt w, rn.isLt, rd.isLt, off.isLt⟩ : _ ∧ _ ∧ _ ∧ _ ∧ _ ∧ _ ∧ _)
  simp only [Encodes.Statement, encode, pack]; omega

theorem Encodes.ldrhReg (cond : Cond) (p : Bool) (u : Bool) (w : Bool) (rn : Reg) (rd : Reg) (rm : Reg) : Encodes.Statement (.ldrhReg cond p u w rn rd rm) := by
  have h := And.intro trivial (⟨cond_code_lt cond, bool_toNat_lt p, bool_toNat_lt u, bool_toNat_lt w, rn.isLt, rd.isLt, rm.isLt⟩ : _ ∧ _ ∧ _ ∧ _ ∧ _ ∧ _ ∧ _)
  simp only [Encodes.Statement, encode, pack]; omega

theorem Encodes.ldrhImm (cond : Cond) (p : Bool) (u : Bool) (w : Bool) (rn : Reg) (rd : Reg) (off : BitVec 8) : Encodes.Statement (.ldrhImm cond p u w rn rd off) := by
  have h := And.intro trivial (⟨cond_code_lt cond, bool_toNat_lt p, bool_toNat_lt u, bool_toNat_lt w, rn.isLt, rd.isLt, off.isLt⟩ : _ ∧ _ ∧ _ ∧ _ ∧ _ ∧ _ ∧ _)
  simp only [Encodes.Statement, encode, pack]; omega

theorem Encodes.ldrsbReg (cond : Cond) (p : Bool) (u : Bool) (w : Bool) (rn : Reg) (rd : Reg) (rm : Reg) : Encodes.Statement (.ldrsbReg cond p u w rn rd rm) := by
  have h := And.intro trivial (⟨cond_code_lt cond, bool_toNat_lt p, bool_toNat_lt u, bool_toNat_lt w, rn.isLt, rd.isLt, rm.isLt⟩ : _ ∧ _ ∧ _ ∧ _ ∧ _ ∧ _ ∧ _)
  simp only [Encodes.Statement, encode, pack]; omega

theorem Encodes.ldrsbImm (cond : Cond) (p : Bool) (u : Bool) (w : Bool) (rn : Reg) (rd : Reg) (off : BitVec 8) : Encodes.Statement (.ldrsbImm cond p u w rn rd off) := by
  have h := And.intro trivial (⟨cond_code_lt cond, bool_toNat_lt p, bool_toNat_lt u, bool_toNat_lt w, rn.isLt, rd.isLt, off.isLt⟩ : _ ∧ _ ∧ _ ∧ _ ∧ _ ∧ _ ∧ _)
  simp only [Encodes.Statement, encode, pack]; omega

theorem Encodes.ldrshReg (cond : Cond) (p : Bool) (u : Bool) (w : Bool) (rn : Reg) (rd : Reg) (rm : Reg) : Encodes.Statement (.ldrshReg cond p u w rn rd rm) := by
  have h := And.intro trivial (⟨cond_code_lt cond, bool_toNat_lt p, bool_toNat_lt u, bool_toNat_lt w, rn.isLt, rd.isLt, rm.isLt⟩ : _ ∧ _ ∧ _ ∧ _ ∧ _ ∧ _ ∧ _)
  simp only [Encodes.Statement, encode, pack]; omega

theorem Encodes.ldrshImm (cond : Cond) (p : Bool) (u : Bool) (w : Bool) (rn : Reg) (rd : Reg) (off : BitVec 8) : Encodes.Statement (.ldrshImm cond p u w rn rd off) := by
  have h := And.intro trivial (⟨cond_code_lt cond, bool_toNat_lt p, bool_toNat_lt u, bool_toNat_lt w, rn.isLt, rd.isLt, off.isLt⟩ : _ ∧ _ ∧ _ ∧ _ ∧ _ ∧ _ ∧ _)
  simp only [Encodes.Statement, encode, pack]; omega

theorem Encodes.mrs (cond : Cond) (r : Bool) (rd : Reg) : Encodes.Statement (.mrs cond r rd) := by
  have h := And.intro trivial (⟨cond_code_lt cond, bool_toNat_lt r, rd.isLt⟩ : _ ∧ _ ∧ _)
  simp only [Encodes.Statement, encode, pack]; omega

theorem Encodes.msrReg (cond : Cond) (r : Bool) (mask : BitVec 4) (rm : Reg) : Encodes.Statement (.msrReg cond r mask rm) := by
  have h := And.intro trivial (⟨cond_code_lt cond, bool_toNat_lt r, mask.isLt, rm.isLt⟩ : _ ∧ _ ∧ _ ∧ _)
  simp only [Encodes.Statement, encode, pack]; omega

theorem Encodes.msrImm (cond : Cond) (r : Bool) (mask : BitVec 4) (rot : BitVec 4) (imm : BitVec 8) : Encodes.Statement (.msrImm cond r mask rot imm) := by
  have h := And.intro trivial (⟨cond_code_lt cond, bool_toNat_lt r, mask.isLt, rot.isLt, imm.isLt⟩ : _ ∧ _ ∧ _ ∧ _ ∧ _)
  simp only [Encodes.Statement, encode, pack]; omega

theorem Encodes.andImm (cond : Cond) (s : Bool) (rn : Reg) (rd : Reg) (rot : BitVec 4) (imm : BitVec 8) : Encodes.Statement (.andImm cond s rn rd rot imm) := by
  have h := And.intro trivial (⟨cond_code_lt cond, bool_toNat_lt s, rn.isLt, rd.isLt, rot.isLt, imm.isLt⟩ : _ ∧ _ ∧ _ ∧ _ ∧ _ ∧ _)
  simp only [Encodes.Statement, encode, pack]; omega

theorem Encodes.andShi (cond : Cond) (s : Bool) (rn : Reg) (rd : Reg) (shamt : BitVec 5) (sh : ShiftType) (rm : Reg) : Encodes.Statement (.andShi cond s rn rd shamt sh rm) := by
  have h := And.intro trivial (⟨cond_code_lt cond, bool_toNat_lt s, rn.isLt, rd.isLt, shamt.isLt, shift_code_lt sh, rm.isLt⟩ : _ ∧ _ ∧ _ ∧ _ ∧ _ ∧ _ ∧ _)
  simp only [Encodes.Statement, encode, pack]; omega

theorem Encodes.andShr (cond : Cond) (s : Bool) (rn : Reg) (rd : Reg) (rs : Reg) (sh : ShiftType) (rm : Reg) : Encodes.Statement (.andShr cond s rn rd rs sh rm) := by
  have h := And.intro trivial (⟨cond_code_lt cond, bool_toNat_lt s, rn.isLt, rd.isLt, rs.isLt, shift_code_lt sh, rm.isLt⟩ : _ ∧ _ ∧ _ ∧ _ ∧ _ ∧ _ ∧ _)
  simp only [Encodes.Statement, encode, pack]; omega

theorem Encodes.eorImm (cond : Cond) (s : Bool) (rn : Reg) (rd : Reg) (rot : BitVec 4) (imm : BitVec 8) : Encodes.Statement (.eorImm cond s rn rd rot imm) := by
  have h := And.intro trivial (⟨cond_code_lt cond, bool_toNat_lt s, rn.isLt, rd.isLt, rot.isLt, imm.isLt⟩ : _ ∧ _ ∧ _ ∧ _ ∧ _ ∧ _)
  simp only [Encodes.Statement, encode, pack]; omega

theorem Encodes.eorShi (cond : Cond) (s : Bool) (rn : Reg) (rd : Reg) (shamt : BitVec 5) (sh : ShiftType) (rm : Reg) : Encodes.Statement (.eorShi cond s rn rd shamt sh rm) := by
  have h := And.intro trivial (⟨cond_code_lt cond, bool_toNat_lt s, rn.isLt, rd.isLt, shamt.isLt, shift_code_lt sh, rm.isLt⟩ : _ ∧ _ ∧ _ ∧ _ ∧ _ ∧ _ ∧ _)
  simp only [Encodes.Statement, encode, pack]; omega

theorem Encodes.eorShr (cond : Cond) (s : Bool) (rn : Reg) (rd : Reg) (rs : Reg) (sh : ShiftType) (rm : Reg) : Encodes.Statement (.eorShr cond s rn rd rs sh rm) := by
  have h := And.intro trivial (⟨cond_code_lt cond, bool_toNat_lt s, rn.isLt, rd.isLt, rs.isLt, shift_code_lt sh, rm.isLt⟩ : _ ∧ _ ∧ _ ∧ _ ∧ _ ∧ _ ∧ _)
  simp only [Encodes.Statement, encode, pack]; omega

theorem Encodes.subImm (cond : Cond) (s : Bool) (rn : Reg) (rd : Reg) (rot : BitVec 4) (imm : BitVec 8) : Encodes.Statement (.subImm cond s rn rd rot imm) := by
  have h := And.intro trivial (⟨cond_code_lt cond, bool_toNat_lt s, rn.isLt, rd.isLt, rot.isLt, imm.isLt⟩ : _ ∧ _ ∧ _ ∧ _ ∧ _ ∧ _)
  simp only [Encodes.Statement, encode, pack]; omega

theorem Encodes.subShi (cond : Cond) (s : Bool) (rn : Reg) (rd : Reg) (shamt : BitVec 5) (sh : ShiftType) (rm : Reg) : Encodes.Statement (.subShi cond s rn rd shamt sh rm) := by
  have h := And.intro trivial (⟨cond_code_lt cond, bool_toNat_lt s, rn.isLt, rd.isLt, shamt.isLt, shift_code_lt sh, rm.isLt⟩ : _ ∧ _ ∧ _ ∧ _ ∧ _ ∧ _ ∧ _)
  simp only [Encodes.Statement, encode, pack]; omega

theorem Encodes.subShr (cond : Cond) (s : Bool) (rn : Reg) (rd : Reg) (rs : Reg) (sh : ShiftType) (rm : Reg) : Encodes.Statement (.subShr cond s rn rd rs sh rm) := by
  have h := And.intro trivial (⟨cond_code_lt cond, bool_toNat_lt s, rn.isLt, rd.isLt, rs.isLt, shift_code_lt sh, rm.isLt⟩ : _ ∧ _ ∧ _ ∧ _ ∧ _ ∧ _ ∧ _)
  simp only [Encodes.Statement, encode, pack]; omega

theorem Encodes.rsbImm (cond : Cond) (s : Bool) (rn : Reg) (rd : Reg) (rot : BitVec 4) (imm : BitVec 8) : Encodes.Statement (.rsbImm cond s rn rd rot imm) := by
  have h := And.intro trivial (⟨cond_code_lt cond, bool_toNat_lt s, rn.isLt, rd.isLt, rot.isLt, imm.isLt⟩ : _ ∧ _ ∧ _ ∧ _ ∧ _ ∧ _)
  simp only [Encodes.Statement, encode, pack]; omega

theorem Encodes.rsbShi (cond : Cond) (s : Bool) (rn : Reg) (rd : Reg) (shamt : BitVec 5) (sh : ShiftType) (rm : Reg) : Encodes.Statement (.rsbShi cond s rn rd shamt sh rm) := by
  have h := And.intro trivial (⟨cond_code_lt cond, bool_toNat_lt s, rn.isLt, rd.isLt, shamt.isLt, shift_code_lt sh, rm.isLt⟩ : _ ∧ _ ∧ _ ∧ _ ∧ _ ∧ _ ∧ _)
  simp only [Encodes.Statement, encode, pack]; omega

theorem Encodes.rsbShr (cond : Cond) (s : Bool) (rn : Reg) (rd : Reg) (rs : Reg) (sh : ShiftType) (rm : Reg) : Encodes.Statement (.rsbShr cond s rn rd rs sh rm) := by
  have h := And.intro trivial (⟨cond_code_lt cond, bool_toNat_lt s, rn.isLt, rd.isLt, rs.isLt, shift_code_lt sh, rm.isLt⟩ : _ ∧ _ ∧ _ ∧ _ ∧ _ ∧ _ ∧ _)
  simp only [Encodes.Statement, encode, pack]; omega

theorem Encodes.addImm (cond : Cond) (s : Bool) (rn : Reg) (rd : Reg) (rot : BitVec 4) (imm : BitVec 8) : Encodes.Statement (.addImm cond s rn rd rot imm) := by
  have h := And.intro trivial (⟨cond_code_lt cond, bool_toNat_lt s, rn.isLt, rd.isLt, rot.isLt, imm.isLt⟩ : _ ∧ _ ∧ _ ∧ _ ∧ _ ∧ _)
  simp only [Encodes.Statement, encode, pack]; omega

theorem Encodes.addShi (cond : Cond) (s : Bool) (rn : Reg) (rd : Reg) (shamt : BitVec 5) (sh : ShiftType) (rm : Reg) : Encodes.Statement (.addShi cond s rn rd shamt sh rm) := by
  have h := And.intro trivial (⟨cond_code_lt cond, bool_toNat_lt s, rn.isLt, rd.isLt, shamt.isLt, shift_code_lt sh, rm.isLt⟩ : _ ∧ _ ∧ _ ∧ _ ∧ _ ∧ _ ∧ _)
  simp only [Encodes.Statement, encode, pack]; omega

theorem Encodes.addShr (cond : Cond) (s : Bool) (rn : Reg) (rd : Reg) (rs : Reg) (sh : ShiftType) (rm : Reg) : Encodes.Statement (.addShr cond s rn rd rs sh rm) := by
  have h := And.intro trivial (⟨cond_code_lt cond, bool_toNat_lt s, rn.isLt, rd.isLt, rs.isLt, shift_code_lt sh, rm.isLt⟩ : _ ∧ _ ∧ _ ∧ _ ∧ _ ∧ _ ∧ _)
  simp only [Encodes.Statement, encode, pack]; omega

theorem Encodes.adcImm (cond : Cond) (s : Bool) (rn : Reg) (rd : Reg) (rot : BitVec 4) (imm : BitVec 8) : Encodes.Statement (.adcImm cond s rn rd rot imm) := by
  have h := And.intro trivial (⟨cond_code_lt cond, bool_toNat_lt s, rn.isLt, rd.isLt, rot.isLt, imm.isLt⟩ : _ ∧ _ ∧ _ ∧ _ ∧ _ ∧ _)
  simp only [Encodes.Statement, encode, pack]; omega

theorem Encodes.adcShi (cond : Cond) (s : Bool) (rn : Reg) (rd : Reg) (shamt : BitVec 5) (sh : ShiftType) (rm : Reg) : Encodes.Statement (.adcShi cond s rn rd shamt sh rm) := by
  have h := And.intro trivial (⟨cond_code_lt cond, bool_toNat_lt s, rn.isLt, rd.isLt, shamt.isLt, shift_code_lt sh, rm.isLt⟩ : _ ∧ _ ∧ _ ∧ _ ∧ _ ∧ _ ∧ _)
  simp only [Encodes.Statement, encode, pack]; omega

theorem Encodes.adcShr (cond : Cond) (s : Bool) (rn : Reg) (rd : Reg) (rs : Reg) (sh : ShiftType) (rm : Reg) : Encodes.Statement (.adcShr cond s rn rd rs sh rm) := by
  have h := And.intro trivial (⟨cond_code_lt cond, bool_toNat_lt s, rn.isLt, rd.isLt, rs.isLt, shift_code_lt sh, rm.isLt⟩ : _ ∧ _ ∧ _ ∧ _ ∧ _ ∧ _ ∧ _)
  simp only [Encodes.Statement, encode, pack]; omega

theorem Encodes.sbcImm (cond : Cond) (s : Bool) (rn : Reg) (rd : Reg) (rot : BitVec 4) (imm : BitVec 8) : Encodes.Statement (.sbcImm cond s rn rd rot imm) := by
  have h := And.intro trivial (⟨cond_code_lt cond, bool_toNat_lt s, rn.isLt, rd.isLt, rot.isLt, imm.isLt⟩ : _ ∧ _ ∧ _ ∧ _ ∧ _ ∧ _)
  simp only [Encodes.Statement, encode, pack]; omega

theorem Encodes.sbcShi (cond : Cond) (s : Bool) (rn : Reg) (rd : Reg) (shamt : BitVec 5) (sh : ShiftType) (rm : Reg) : Encodes.Statement (.sbcShi cond s rn rd shamt sh rm) := by
  have h := And.intro trivial (⟨cond_code_lt cond, bool_toNat_lt s, rn.isLt, rd.isLt, shamt.isLt, shift_code_lt sh, rm.isLt⟩ : _ ∧ _ ∧ _ ∧ _ ∧ _ ∧ _ ∧ _)
  simp only [Encodes.Statement, encode, pack]; omega

theorem Encodes.sbcShr (cond : Cond) (s : Bool) (rn : Reg) (rd : Reg) (rs : Reg) (sh : ShiftType) (rm : Reg) : Encodes.Statement (.sbcShr cond s rn rd rs sh rm) := by
  have h := And.intro trivial (⟨cond_code_lt cond, bool_toNat_lt s, rn.isLt, rd.isLt, rs.isLt, shift_code_lt sh, rm.isLt⟩ : _ ∧ _ ∧ _ ∧ _ ∧ _ ∧ _ ∧ _)
  simp only [Encodes.Statement, encode, pack]; omega

theorem Encodes.rscImm (cond : Cond) (s : Bool) (rn : Reg) (rd : Reg) (rot : BitVec 4) (imm : BitVec 8) : Encodes.Statement (.rscImm cond s rn rd rot imm) := by
  have h := And.intro trivial (⟨cond_code_lt cond, bool_toNat_lt s, rn.isLt, rd.isLt, rot.isLt, imm.isLt⟩ : _ ∧ _ ∧ _ ∧ _ ∧ _ ∧ _)
  simp only [Encodes.Statement, encode, pack]; omega

theorem Encodes.rscShi (cond : Cond) (s : Bool) (rn : Reg) (rd : Reg) (shamt : BitVec 5) (sh : ShiftType) (rm : Reg) : Encodes.Statement (.rscShi cond s rn rd shamt sh rm) := by
  have h := And.intro trivial (⟨cond_code_lt cond, bool_toNat_lt s, rn.isLt, rd.isLt, shamt.isLt, shift_code_lt sh, rm.isLt⟩ : _ ∧ _ ∧ _ ∧ _ ∧ _ ∧ _ ∧ _)
  simp only [Encodes.Statement, encode, pack]; omega

theorem Encodes.rscShr (cond : Cond) (s : Bool) (rn : Reg) (rd : Reg) (rs : Reg) (sh : ShiftType) (rm : Reg) : Encodes.Statement (.rscShr cond s rn rd rs sh rm) := by
  have h := And.intro trivial (⟨cond_code_lt cond, bool_toNat_lt s, rn.isLt, rd.isLt, rs.isLt, shift_code_lt sh, rm.isLt⟩ : _ ∧ _ ∧ _ ∧ _ ∧ _ ∧ _ ∧ _)
  simp only [Encodes.Statement, encode, pack]; omega

theorem Encodes.tstImm (cond : Cond) (rn : Reg) (rd : Reg) (rot : BitVec 4) (imm : BitVec 8) : Encodes.Statement (.tstImm cond rn rd rot imm) := by
  have h := And.intro trivial (⟨cond_code_lt cond, rn.isLt, rd.isLt, rot.isLt, imm.isLt⟩ : _ ∧ _ ∧ _ ∧ _ ∧ _)
  simp only [Encodes.Statement, encode, pack]; omega

theorem Encodes.tstShi (cond : Cond) (rn : Reg) (rd : Reg) (shamt : BitVec 5) (sh : ShiftType) (rm : Reg) : Encodes.Statement (.tstShi cond rn rd shamt sh rm) := by
  have h := And.intro trivial (⟨cond_code_lt cond, rn.isLt, rd.isLt, shamt.isLt, shift_code_lt sh, rm.isLt⟩ : _ ∧ _ ∧ _ ∧ _ ∧ _ ∧ _)
  simp only [Encodes.Statement, encode, pack]; omega

theorem Encodes.tstShr (cond : Cond) (rn : Reg) (rd : Reg) (rs : Reg) (sh : ShiftType) (rm : Reg) : Encodes.Statement (.tstShr cond rn rd rs sh rm) := by
  have h := And.intro trivial (⟨cond_code_lt cond, rn.isLt, rd.isLt, rs.isLt, shift_code_lt sh, rm.isLt⟩ : _ ∧ _ ∧ _ ∧ _ ∧ _ ∧ _)
  simp only [Encodes.Statement, encode, pack]; omega

theorem Encodes.teqImm (cond : Cond) (rn : Reg) (rd : Reg) (rot : BitVec 4) (imm : BitVec 8) : Encodes.Statement (.teqImm cond rn rd rot imm) := by
  have h := And.intro trivial (⟨cond_code_lt cond, rn.isLt, rd.isLt, rot.isLt, imm.isLt⟩ : _ ∧ _ ∧ _ ∧ _ ∧ _)
  simp only [Encodes.Statement, encode, pack]; omega

theorem Encodes.teqShi (cond : Cond) (rn : Reg) (rd : Reg) (shamt : BitVec 5) (sh : ShiftType) (rm : Reg) : Encodes.Statement (.teqShi cond rn rd shamt sh rm) := by
  have h := And.intro trivial (⟨cond_code_lt cond, rn.isLt, rd.isLt, shamt.isLt, shift_code_lt sh, rm.isLt⟩ : _ ∧ _ ∧ _ ∧ _ ∧ _ ∧ _)
  simp only [Encodes.Statement, encode, pack]; omega

theorem Encodes.teqShr (cond : Cond) (rn : Reg) (rd : Reg) (rs : Reg) (sh : ShiftType) (rm : Reg) : Encodes.Statement (.teqShr cond rn rd rs sh rm) := by
  have h := And.intro trivial (⟨cond_code_lt cond, rn.isLt, rd.isLt, rs.isLt, shift_code_lt sh, rm.isLt⟩ : _ ∧ _ ∧ _ ∧ _ ∧ _ ∧ _)
  simp only [Encodes.Statement, encode, pack]; omega

theorem Encodes.cmpImm (cond : Cond) (rn : Reg) (rd : Reg) (rot : BitVec 4) (imm : BitVec 8) : Encodes.Statement (.cmpImm cond rn rd rot imm) := by
  have h := And.intro trivial (⟨cond_code_lt cond, rn.isLt, rd.isLt, rot.isLt, imm.isLt⟩ : _ ∧ _ ∧ _ ∧ _ ∧ _)
  simp only [Encodes.Statement, encode, pack]; omega

theorem Encodes.cmpShi (cond : Cond) (rn : Reg) (rd : Reg) (shamt : BitVec 5) (sh : ShiftType) (rm : Reg) : Encodes.Statement (.cmpShi cond rn rd shamt sh rm) := by
  have h := And.intro trivial (⟨cond_code_lt cond, rn.isLt, rd.isLt, shamt.isLt, shift_code_lt sh, rm.isLt⟩ : _ ∧ _ ∧ _ ∧ _ ∧ _ ∧ _)
  simp only [Encodes.Statement, encode, pack]; omega

theorem Encodes.cmpShr (cond : Cond) (rn : Reg) (rd : Reg) (rs : Reg) (sh : ShiftType) (rm : Reg) : Encodes.Statement (.cmpShr cond rn rd rs sh rm) := by
  have h := And.intro trivial (⟨cond_code_lt cond, rn.isLt, rd.isLt, rs.isLt, shift_code_lt sh, rm.isLt⟩ : _ ∧ _ ∧ _ ∧ _ ∧ _ ∧ _)
  simp only [Encodes.Statement, encode, pack]; omega

theorem Encodes.cmnImm (cond : Cond) (rn : Reg) (rd : Reg) (rot : BitVec 4) (imm : BitVec 8) : Encodes.Statement (.cmnImm cond rn rd rot imm) := by
  have h := And.intro trivial (⟨cond_code_lt cond, rn.isLt, rd.isLt, rot.isLt, imm.isLt⟩ : _ ∧ _ ∧ _ ∧ _ ∧ _)
  simp only [Encodes.Statement, encode, pack]; omega

theorem Encodes.cmnShi (cond : Cond) (rn : Reg) (rd : Reg) (shamt : BitVec 5) (sh : ShiftType) (rm : Reg) : Encodes.Statement (.cmnShi cond rn rd shamt sh rm) := by
  have h := And.intro trivial (⟨cond_code_lt cond, rn.isLt, rd.isLt, shamt.isLt, shift_code_lt sh, rm.isLt⟩ : _ ∧ _ ∧ _ ∧ _ ∧ _ ∧ _)
  simp only [Encodes.Statement, encode, pack]; omega

theorem Encodes.cmnShr (cond : Cond) (rn : Reg) (rd : Reg) (rs : Reg) (sh : ShiftType) (rm : Reg) : Encodes.Statement (.cmnShr cond rn rd rs sh rm) := by
  have h := And.intro trivial (⟨cond_code_lt cond, rn.isLt, rd.isLt, rs.isLt, shift_code_lt sh, rm.isLt⟩ : _ ∧ _ ∧ _ ∧ _ ∧ _ ∧ _)
  simp only [Encodes.Statement, encode, pack]; omega

theorem Encodes.orrImm (cond : Cond) (s : Bool) (rn : Reg) (rd : Reg) (rot : BitVec 4) (imm : BitVec 8) : Encodes.Statement (.orrImm cond s rn rd rot imm) := by
  have h := And.intro trivial (⟨cond_code_lt cond, bool_toNat_lt s, rn.isLt, rd.isLt, rot.isLt, imm.isLt⟩ : _ ∧ _ ∧ _ ∧ _ ∧ _ ∧ _)
  simp only [Encodes.Statement, encode, pack]; omega

theorem Encodes.orrShi (cond : Cond) (s : Bool) (rn : Reg) (rd : Reg) (shamt : BitVec 5) (sh : ShiftType) (rm : Reg) : Encodes.Statement (.orrShi cond s rn rd shamt sh rm) := by
  have h := And.intro trivial (⟨cond_code_lt cond, bool_toNat_lt s, rn.isLt, rd.isLt, shamt.isLt, shift_code_lt sh, rm.isLt⟩ : _ ∧ _ ∧ _ ∧ _ ∧ _ ∧ _ ∧ _)
  simp only [Encodes.Statement, encode, pack]; omega

theorem Encodes.orrShr (cond : Cond) (s : Bool) (rn : Reg) (rd : Reg) (rs : Reg) (sh : ShiftType) (rm : Reg) : Encodes.Statement (.orrShr cond s rn rd rs sh rm) := by
  have h := And.intro trivial (⟨cond_code_lt cond, bool_toNat_lt s, rn.isLt, rd.isLt, rs.isLt, shift_code_lt sh, rm.isLt⟩ : _ ∧ _ ∧ _ ∧ _ ∧ _ ∧ _ ∧ _)
  simp only [Encodes.Statement, encode, pack]; omega

theorem Encodes.movImm (cond : Cond) (s : Bool) (rn : Reg) (rd : Reg) (rot : BitVec 4) (imm : BitVec 8) : Encodes.Statement (.movImm cond s rn rd rot imm) := by
  have h := And.intro trivial (⟨cond_code_lt cond, bool_toNat_lt s, rn.isLt, rd.isLt, rot.isLt, imm.isLt⟩ : _ ∧ _ ∧ _ ∧ _ ∧ _ ∧ _)
  simp only [Encodes.Statement, encode, pack]; omega

theorem Encodes.movShi (cond : Cond) (s : Bool) (rn : Reg) (rd : Reg) (shamt : BitVec 5) (sh : ShiftType) (rm : Reg) : Encodes.Statement (.movShi cond s rn rd shamt sh rm) := by
  have h := And.intro trivial (⟨cond_code_lt cond, bool_toNat_lt s, rn.isLt, rd.isLt, shamt.isLt, shift_code_lt sh, rm.isLt⟩ : _ ∧ _ ∧ _ ∧ _ ∧ _ ∧ _ ∧ _)
  simp only [Encodes.Statement, encode, pack]; omega

theorem Encodes.movShr (cond : Cond) (s : Bool) (rn : Reg) (rd : Reg) (rs : Reg) (sh : ShiftType) (rm : Reg) : Encodes.Statement (.movShr cond s rn rd rs sh rm) := by
  have h := And.intro trivial (⟨cond_code_lt cond, bool_toNat_lt s, rn.isLt, rd.isLt, rs.isLt, shift_code_lt sh, rm.isLt⟩ : _ ∧ _ ∧ _ ∧ _ ∧ _ ∧ _ ∧ _)
  simp only [Encodes.Statement, encode, pack]; omega

theorem Encodes.bicImm (cond : Cond) (s : Bool) (rn : Reg) (rd : Reg) (rot : BitVec 4) (imm : BitVec 8) : Encodes.Statement (.bicImm cond s rn rd rot imm) := by
  have h := And.intro trivial (⟨cond_code_lt cond, bool_toNat_lt s, rn.isLt, rd.isLt, rot.isLt, imm.isLt⟩ : _ ∧ _ ∧ _ ∧ _ ∧ _ ∧ _)
  simp only [Encodes.Statement, encode, pack]; omega

theorem Encodes.bicShi (cond : Cond) (s : Bool) (rn : Reg) (rd : Reg) (shamt : BitVec 5) (sh : ShiftType) (rm : Reg) : Encodes.Statement (.bicShi cond s rn rd shamt sh rm) := by
  have h := And.intro trivial (⟨cond_code_lt cond, bool_toNat_lt s, rn.isLt, rd.isLt, shamt.isLt, shift_code_lt sh, rm.isLt⟩ : _ ∧ _ ∧ _ ∧ _ ∧ _ ∧ _ ∧ _)
  simp only [Encodes.Statement, encode, pack]; omega

theorem Encodes.bicShr (cond : Cond) (s : Bool) (rn : Reg) (rd : Reg) (rs : Reg) (sh : ShiftType) (rm : Reg) : Encodes.Statement (.bicShr cond s rn rd rs sh rm) := by
  have h := And.intro trivial (⟨cond_code_lt cond, bool_toNat_lt s, rn.isLt, rd.isLt, rs.isLt, shift_code_lt sh, rm.isLt⟩ : _ ∧ _ ∧ _ ∧ _ ∧ _ ∧ _ ∧ _)
  simp only [Encodes.Statement, encode, pack]; omega

theorem Encodes.mvnImm (cond : Cond) (s : Bool) (rn : Reg) (rd : Reg) (rot : BitVec 4) (imm : BitVec 8) : Encodes.Statement (.mvnImm cond s rn rd rot imm) := by
  have h := And.intro trivial (⟨cond_code_lt cond, bool_toNat_lt s, rn.isLt, rd.isLt, rot.isLt, imm.isLt⟩ : _ ∧ _ ∧ _ ∧ _ ∧ _ ∧ _)
  simp only [Encodes.Statement, encode, pack]; omega

theorem Encodes.mvnShi (cond : Cond) (s : Bool) (rn : Reg) (rd : Reg) (shamt : BitVec 5) (sh : ShiftType) (rm : Reg) : Encodes.Statement (.mvnShi cond s rn rd shamt sh rm) := by
  have h := And.intro trivial (⟨cond_code_lt cond, bool_toNat_lt s, rn.isLt, rd.isLt, shamt.isLt, shift_code_lt sh, rm.isLt⟩ : _ ∧ _ ∧ _ ∧ _ ∧ _ ∧ _ ∧ _)
  simp only [Encodes.Statement, encode, pack]; omega

theorem Encodes.mvnShr (cond : Cond) (s : Bool) (rn : Reg) (rd : Reg) (rs : Reg) (sh : ShiftType) (rm : Reg) : Encodes.Statement (.mvnShr cond s rn rd rs sh rm) := by
  have h := And.intro trivial (⟨cond_code_lt cond, bool_toNat_lt s, rn.isLt, rd.isLt, rs.isLt, shift_code_lt sh, rm.isLt⟩ : _ ∧ _ ∧ _ ∧ _ ∧ _ ∧ _ ∧ _)
  simp only [Encodes.Statement, encode, pack]; omega

theorem Encodes.ldrImm (cond : Cond) (u : Bool) (w : Bool) (rn : Reg) (rd : Reg) (off : BitVec 12) : Encodes.Statement (.ldrImm cond u w rn rd off) := by
  have h := And.intro trivial (⟨cond_code_lt cond, bool_toNat_lt u, bool_toNat_lt w, rn.isLt, rd.isLt, off.isLt⟩ : _ ∧ _ ∧ _ ∧ _ ∧ _ ∧ _)
  simp only [Encodes.Statement, encode, pack]; omega

theorem Encodes.ldrImmPost (cond : Cond) (u : Bool) (rn : Reg) (rd : Reg) (off : BitVec 12) : Encodes.Statement (.ldrImmPost cond u rn rd off) := by
  have h := And.intro trivial (⟨cond_code_lt cond, bool_toNat_lt u, rn.isLt, rd.isLt, off.isLt⟩ : _ ∧ _ ∧ _ ∧ _ ∧ _)
  simp only [Encodes.Statement, encode, pack]; omega

theorem Encodes.ldrReg (cond : Cond) (u : Bool) (w : Bool) (rn : Reg) (rd : Reg) (shamt : BitVec 5) (sh : ShiftType) (rm : Reg) : Encodes.Statement (.ldrReg cond u w rn rd shamt sh rm) := by
  have h := And.intro trivial (⟨cond_code_lt cond, bool_toNat_lt u, bool_toNat_lt w, rn.isLt, rd.isLt, shamt.isLt, shift_code_lt sh, rm.isLt⟩ : _ ∧ _ ∧ _ ∧ _ ∧ _ ∧ _ ∧ _ ∧ _)
  simp only [Encodes.Statement, encode, pack]; omega

theorem Encodes.ldrRegPost (cond : Cond) (u : Bool) (rn : Reg) (rd : Reg) (shamt : BitVec 5) (sh : ShiftType) (rm : Reg) : Encodes.Statement (.ldrRegPost cond u rn rd shamt sh rm) := by
  have h := And.intro trivial (⟨cond_code_lt cond, bool_toNat_lt u, rn.isLt, rd.isLt, shamt.isLt, shift_code_lt sh, rm.isLt⟩ : _ ∧ _ ∧ _ ∧ _ ∧ _ ∧ _ ∧ _)
  simp only [Encodes.Statement, encode, pack]; omega

theorem Encodes.ldrbImm (cond : Cond) (u : Bool) (w : Bool) (rn : Reg) (rd : Reg) (off : BitVec 12) : Encodes.Statement (.ldrbImm cond u w rn rd off) := by
  have h := And.intro trivial (⟨cond_code_lt cond, bool_toNat_lt u, bool_toNat_lt w, rn.isLt, rd.isLt, off.isLt⟩ : _ ∧ _ ∧ _ ∧ _ ∧ _ ∧ _)
  simp only [Encodes.Statement, encode, pack]; omega

theorem Encodes.ldrbImmPost (cond : Cond) (u : Bool) (rn : Reg) (rd : Reg) (off : BitVec 12) : Encodes.Statement (.ldrbImmPost cond u rn rd off) := by
  have h := And.intro trivial (⟨cond_code_lt cond, bool_toNat_lt u, rn.isLt, rd.isLt, off.isLt⟩ : _ ∧ _ ∧ _ ∧ _ ∧ _)
  simp only [Encodes.Statement, encode, pack]; omega

theorem Encodes.ldrbReg (cond : Cond) (u : Bool) (w : Bool) (rn : Reg) (rd : Reg) (shamt : BitVec 5) (sh : ShiftType) (rm : Reg) : Encodes.Statement (.ldrbReg cond u w rn rd shamt sh rm) := by
  have h := And.intro trivial (⟨cond_code_lt cond, bool_toNat_lt u, bool_toNat_lt w, rn.isLt, rd.isLt, shamt.isLt, shift_code_lt sh, rm.isLt⟩ : _ ∧ _ ∧ _ ∧ _ ∧ _ ∧ _ ∧ _ ∧ _)
  simp only [Encodes.Statement, encode, pack]; omega

theorem Encodes.ldrbRegPost (cond : Cond) (u : Bool) (rn : Reg) (rd : Reg) (shamt : BitVec 5) (sh : ShiftType) (rm : Reg) : Encodes.Statement (.ldrbRegPost cond u rn rd shamt sh rm) := by
  have h := And.intro trivial (⟨cond_code_lt cond, bool_toNat_lt u, rn.isLt, rd.isLt, shamt.isLt, shift_code_lt sh, rm.isLt⟩ : _ ∧ _ ∧ _ ∧ _ ∧ _ ∧ _ ∧ _)
  simp only [Encodes.Statement, encode, pack]; omega

theorem Encodes.strImm (cond : Cond) (u : Bool) (w : Bool) (rn : Reg) (rd : Reg) (off : BitVec 12) : Encodes.Statement (.strImm cond u w rn rd off) := by
  have h := And.intro trivial (⟨cond_code_lt cond, bool_toNat_lt u, bool_toNat_lt w, rn.isLt, rd.isLt, off.isLt⟩ : _ ∧ _ ∧ _ ∧ _ ∧ _ ∧ _)
  simp only [Encodes.Statement, encode, pack]; omega

theorem Encodes.strImmPost (cond : Cond) (u : Bool) (rn : Reg) (rd : Reg) (off : BitVec 12) : Encodes.Statement (.strImmPost cond u rn rd off) := by
  have h := And.intro trivial (⟨cond_code_lt cond, bool_toNat_lt u, rn.isLt, rd.isLt, off.isLt⟩ : _ ∧ _ ∧ _ ∧ _ ∧ _)
  simp only [Encodes.Statement, encode, pack]; omega

theorem Encodes.strReg (cond : Cond) (u : Bool) (w : Bool) (rn : Reg) (rd : Reg) (shamt : BitVec 5) (sh : ShiftType) (rm : Reg) : Encodes.Statement (.strReg cond u w rn rd shamt sh rm) := by
  have h := And.intro trivial (⟨cond_code_lt cond, bool_toNat_lt u, bool_toNat_lt w, rn.isLt, rd.isLt, shamt.isLt, shift_code_lt sh, rm.isLt⟩ : _ ∧ _ ∧ _ ∧ _ ∧ _ ∧ _ ∧ _ ∧ _)
  simp only [Encodes.Statement, encode, pack]; omega

theorem Encodes.strRegPost (cond : Cond) (u : Bool) (rn : Reg) (rd : Reg) (shamt : BitVec 5) (sh : ShiftType) (rm : Reg) : Encodes.Statement (.strRegPost cond u rn rd shamt sh rm) := by
  have h := And.intro trivial (⟨cond_code_lt cond, bool_toNat_lt u, rn.isLt, rd.isLt, shamt.isLt, shift_code_lt sh, rm.isLt⟩ : _ ∧ _ ∧ _ ∧ _ ∧ _ ∧ _ ∧ _)
  simp only [Encodes.Statement, encode, pack]; omega

theorem Encodes.strbImm (cond : Cond) (u : Bool) (w : Bool) (rn : Reg) (rd : Reg) (off : BitVec 12) : Encodes.Statement (.strbImm cond u w rn rd off) := by
  have h := And.intro trivial (⟨cond_code_lt cond, bool_toNat_lt u, bool_toNat_lt w, rn.isLt, rd.isLt, off.isLt⟩ : _ ∧ _ ∧ _ ∧ _ ∧ _ ∧ _)
  simp only [Encodes.Statement, encode, pack]; omega

theorem Encodes.strbImmPost (cond : Cond) (u : Bool) (rn : Reg) (rd : Reg) (off : BitVec 12) : Encodes.Statement (.strbImmPost cond u rn rd off) := by
  have h := And.intro trivial (⟨cond_code_lt cond, bool_toNat_lt u, rn.isLt, rd.isLt, off.isLt⟩ : _ ∧ _ ∧ _ ∧ _ ∧ _)
  simp only [Encodes.Statement, encode, pack]; omega

theorem Encodes.strbReg (cond : Cond) (u : Bool) (w : Bool) (rn : Reg) (rd : Reg) (shamt : BitVec 5) (sh : ShiftType) (rm : Reg) : Encodes.Statement (.strbReg cond u w rn rd shamt sh rm) := by
  have h := And.intro trivial (⟨cond_code_lt cond, bool_toNat_lt u, bool_toNat_lt w, rn.isLt, rd.isLt, shamt.isLt, shift_code_lt sh, rm.isLt⟩ : _ ∧ _ ∧ _ ∧ _ ∧ _ ∧ _ ∧ _ ∧ _)
  simp only [Encodes.Statement, encode, pack]; omega

theorem Encodes.strbRegPost (cond : Cond) (u : Bool) (rn : Reg) (rd : Reg) (shamt : BitVec 5) (sh : ShiftType) (rm : Reg) : Encodes.Statement (.strbRegPost cond u rn rd shamt sh rm) := by
  have h := And.intro trivial (⟨cond_code_lt cond, bool_toNat_lt u, rn.isLt, rd.isLt, shamt.isLt, shift_code_lt sh, rm.isLt⟩ : _ ∧ _ ∧ _ ∧ _ ∧ _ ∧ _ ∧ _)
  simp only [Encodes.Statement, encode, pack]; omega

theorem Encodes.ldrtImm (cond : Cond) (u : Bool) (rn : Reg) (rd : Reg) (off : BitVec 12) : Encodes.Statement (.ldrtImm cond u rn rd off) := by
  have h := And.intro trivial (⟨cond_code_lt cond, bool_toNat_lt u, rn.isLt, rd.isLt, off.isLt⟩ : _ ∧ _ ∧ _ ∧ _ ∧ _)
  simp only [Encodes.Statement, encode, pack]; omega

theorem Encodes.ldrtReg (cond : Cond) (u : Bool) (rn : Reg) (rd : Reg) (shamt : BitVec 5) (sh : ShiftType) (rm : Reg) : Encodes.Statement (.ldrtReg cond u rn rd shamt sh rm) := by
  have h := And.intro trivial (⟨cond_code_lt cond, bool_toNat_lt u, rn.isLt, rd.isLt, shamt.isLt, shift_code_lt sh, rm.isLt⟩ : _ ∧ _ ∧ _ ∧ _ ∧ _ ∧ _ ∧ _)
  simp only [Encodes.Statement, encode, pack]; omega

theorem Encodes.ldrbtImm (cond : Cond) (u : Bool) (rn : Reg) (rd : Reg) (off : BitVec 12) : Encodes.Statement (.ldrbtImm cond u rn rd off) := by
  have h := And.intro trivial (⟨cond_code_lt cond, bool_toNat_lt u, rn.isLt, rd.isLt, off.isLt⟩ : _ ∧ _ ∧ _ ∧ _ ∧ _)
  simp only [Encodes.Statement, encode, pack]; omega

theorem Encodes.ldrbtReg (cond : Cond) (u : Bool) (rn : Reg) (rd : Reg) (shamt : BitVec 5) (sh : ShiftType) (rm : Reg) : Encodes.Statement (.ldrbtReg cond u rn rd shamt sh rm) := by
  have h := And.intro trivial (⟨cond_code_lt cond, bool_toNat_lt u, rn.isLt, rd.isLt, shamt.isLt, shift_code_lt sh, rm.isLt⟩ : _ ∧ _ ∧ _ ∧ _ ∧ _ ∧ _ ∧ _)
  simp only [Encodes.Statement, encode, pack]; omega

theorem Encodes.strtImm (cond : Cond) (u : Bool) (rn : Reg) (rd : Reg) (off : BitVec 12) : Encodes.Statement (.strtImm cond u rn rd off) := by
  have h := And.intro trivial (⟨cond_code_lt cond, bool_toNat_lt u, rn.isLt, rd.isLt, off.isLt⟩ : _ ∧ _ ∧ _ ∧ _ ∧ _)
  simp only [Encodes.Statement, encode, pack]; omega

theorem Encodes.strtReg (cond : Cond) (u : Bool) (rn : Reg) (rd : Reg) (shamt : BitVec 5) (sh : ShiftType) (rm : Reg) : Encodes.Statement (.strtReg cond u rn rd shamt sh rm) := by
  have h := And.intro trivial (⟨cond_code_lt cond, bool_toNat_lt u, rn.isLt, rd.isLt, shamt.isLt, shift_code_lt sh, rm.isLt⟩ : _ ∧ _ ∧ _ ∧ _ ∧ _ ∧ _ ∧ _)
  simp only [Encodes.Statement, encode, pack]; omega

theorem Encodes.strbtImm (cond : Cond) (u : Bool) (rn : Reg) (rd : Reg) (off : BitVec 12) : Encodes.Statement (.strbtImm cond u rn rd off) := by
  have h := And.intro trivial (⟨cond_code_lt cond, bool_toNat_lt u, rn.isLt, rd.isLt, off.isLt⟩ : _ ∧ _ ∧ _ ∧ _ ∧ _)
  simp only [Encodes.Statement, encode, pack]; omega

theorem Encodes.strbtReg (cond : Cond) (u : Bool) (rn : Reg) (rd : Reg) (shamt : BitVec 5) (sh : ShiftType) (rm : Reg) : Encodes.Statement (.strbtReg cond u rn rd shamt sh rm) := by
  have h := And.intro trivial (⟨cond_code_lt cond, bool_toNat_lt u, rn.isLt, rd.isLt, shamt.isLt, shift_code_lt sh, rm.isLt⟩ : _ ∧ _ ∧ _ ∧ _ ∧ _ ∧ _ ∧ _)
  simp only [Encodes.Statement, encode, pack]; omega

theorem Encodes.undefined (cond : Cond) (hi : BitVec 20) (lo : BitVec 4) : Encodes.Statement (.undefined cond hi lo) := by
  have h := And.intro trivial (⟨cond_code_lt cond, hi.isLt, lo.isLt⟩ : _ ∧ _ ∧ _)
  simp only [Encodes.Statement, encode, pack]; omega

theorem Encodes.ldmia (cond : Cond) (s : Bool) (w : Bool) (rn : Reg) (list : BitVec 16) : Encodes.Statement (.ldmia cond s w rn list) := by
  have h := And.intro trivial (⟨cond_code_lt cond, bool_toNat_lt s, bool_toNat_lt w, rn.isLt, list.isLt⟩ : _ ∧ _ ∧ _ ∧ _ ∧ _)
  simp only [Encodes.Statement, encode, pack]; omega

theorem Encodes.ldmib (cond : Cond) (s : Bool) (w : Bool) (rn : Reg) (list : BitVec 16) : Encodes.Statement (.ldmib cond s w rn list) := by
  have h := And.intro trivial (⟨cond_code_lt cond, bool_toNat_lt s, bool_toNat_lt w, rn.isLt, list.isLt⟩ : _ ∧ _ ∧ _ ∧ _ ∧ _)
  simp only [Encodes.Statement, encode, pack]; omega

theorem Encodes.ldmda (cond : Cond) (s : Bool) (w : Bool) (rn : Reg) (list : BitVec 16) : Encodes.Statement (.ldmda cond s w rn list) := by
  have h := And.intro trivial (⟨cond_code_lt cond, bool_toNat_lt s, bool_toNat_lt w, rn.isLt, list.isLt⟩ : _ ∧ _ ∧ _ ∧ _ ∧ _)
  simp only [Encodes.Statement, encode, pack]; omega

theorem Encodes.ldmdb (cond : Cond) (s : Bool) (w : Bool) (rn : Reg) (list : BitVec 16) : Encodes.Statement (.ldmdb cond s w rn list) := by
  have h := And.intro trivial (⟨cond_code_lt cond, bool_toNat_lt s, bool_toNat_lt w, rn.isLt, list.isLt⟩ : _ ∧ _ ∧ _ ∧ _ ∧ _)
  simp only [Encodes.Statement, encode, pack]; omega

theorem Encodes.stmia (cond : Cond) (s : Bool) (w : Bool) (rn : Reg) (list : BitVec 16) : Encodes.Statement (.stmia cond s w rn list) := by
  have h := And.intro trivial (⟨cond_code_lt cond, bool_toNat_lt s, bool_toNat_lt w, rn.isLt, list.isLt⟩ : _ ∧ _ ∧ _ ∧ _ ∧ _)
  simp only [Encodes.Statement, encode, pack]; omega

theorem Encodes.stmib (cond : Cond) (s : Bool) (w : Bool) (rn : Reg) (list : BitVec 16) : Encodes.Statement (.stmib cond s w rn list) := by
  have h := And.intro trivial (⟨cond_code_lt cond, bool_toNat_lt s, bool_toNat_lt w, rn.isLt, list.isLt⟩ : _ ∧ _ ∧ _ ∧ _ ∧ _)
  simp only [Encodes.Statement, encode, pack]; omega

theorem Encodes.stmda (cond : Cond) (s : Bool) (w : Bool) (rn : Reg) (list : BitVec 16) : Encodes.Statement (.stmda cond s w rn list) := by
  have h := And.intro trivial (⟨cond_code_lt cond, bool_toNat_lt s, bool_toNat_lt w, rn.isLt, list.isLt⟩ : _ ∧ _ ∧ _ ∧ _ ∧ _)
  simp only [Encodes.Statement, encode, pack]; omega

theorem Encodes.stmdb (cond : Cond) (s : Bool) (w : Bool) (rn : Reg) (list : BitVec 16) : Encodes.Statement (.stmdb cond s w rn list) := by
  have h := And.intro trivial (⟨cond_code_lt cond, bool_toNat_lt s, bool_toNat_lt w, rn.isLt, list.isLt⟩ : _ ∧ _ ∧ _ ∧ _ ∧ _)
  simp only [Encodes.Statement, encode, pack]; omega

theorem Encodes.b (cond : Cond) (off : BitVec 24) : Encodes.Statement (.b cond off) := by
  have h := And.intro trivial (⟨cond_code_lt cond, off.isLt⟩ : _ ∧ _)
  simp only [Encodes.Statement, encode, pack]; omega

theorem Encodes.bl (cond : Cond) (off : BitVec 24) : Encodes.Statement (.bl cond off) := by
  have h := And.intro trivial (⟨cond_code_lt cond, off.isLt⟩ : _ ∧ _)
  simp only [Encodes.Statement, encode, pack]; omega

theorem Encodes.ldc (cond : Cond) (p : Bool) (u : Bool) (n : Bool) (w : Bool) (rn : Reg) (crd : BitVec 4) (cpnum : BitVec 4) (off : BitVec 8) : Encodes.Statement (.ldc cond p u n w rn crd cpnum off) := by
  have h := And.intro trivial (⟨cond_code_lt cond, bool_toNat_lt p, bool_toNat_lt u, bool_toNat_lt n, bool_toNat_lt w, rn.isLt, crd.isLt, cpnum.isLt, off.isLt⟩ : _ ∧ _ ∧ _ ∧ _ ∧ _ ∧ _ ∧ _ ∧ _ ∧ _)
  simp only [Encodes.Statement, encode, pack]; omega

theorem Encodes.stc (cond : Cond) (p : Bool) (u : Bool) (n : Bool) (w : Bool) (rn : Reg) (crd : BitVec 4) (cpnum : BitVec 4) (off : BitVec 8) : Encodes.Statement (.stc cond p u n w rn crd cpnum off) := by
  have h := And.intro trivial (⟨cond_code_lt cond, bool_toNat_lt p, bool_toNat_lt u, bool_toNat_lt n, bool_toNat_lt w, rn.isLt, crd.isLt, cpnum.isLt, off.isLt⟩ : _ ∧ _ ∧ _ ∧ _ ∧ _ ∧ _ ∧ _ ∧ _ ∧ _)
  simp only [Encodes.Statement, encode, pack]; omega

theorem Encodes.cdp (cond : Cond) (op1 : BitVec 4) (crn : BitVec 4) (crd : BitVec 4) (cpnum : BitVec 4) (op2 : BitVec 3) (crm : BitVec 4) : Encodes.Statement (.cdp cond op1 crn crd cpnum op2 crm) := by
  have h := And.intro trivial (⟨cond_code_lt cond, op1.isLt, crn.isLt, crd.isLt, cpnum.isLt, op2.isLt, crm.isLt⟩ : _ ∧ _ ∧ _ ∧ _ ∧ _ ∧ _ ∧ _)
  simp only [Encodes.Statement, encode, pack]; omega

theorem Encodes.mcr (cond : Cond) (op1 : BitVec 3) (crn : BitVec 4) (rd : Reg) (cpnum : BitVec 4) (op2 : BitVec 3) (crm : BitVec 4) : Encodes.Statement (.mcr cond op1 crn rd cpnum op2 crm) := by
  have h := And.intro trivial (⟨cond_code_lt cond, op1.isLt, crn.isLt, rd.isLt, cpnum.isLt, op2.isLt, crm.isLt⟩ : _ ∧ _ ∧ _ ∧ _ ∧ _ ∧ _ ∧ _)
  simp only [Encodes.Statement, encode, pack]; omega

theorem Encodes.mrc (cond : Cond) (op1 : BitVec 3) (crn : BitVec 4) (rd : Reg) (cpnum : BitVec 4) (op2 : BitVec 3) (crm : BitVec 4) : Encodes.Statement (.mrc cond op1 crn rd cpnum op2 crm) := by
  have h := And.intro trivial (⟨cond_code_lt cond, op1.isLt, crn.isLt, rd.isLt, cpnum.isLt, op2.isLt, crm.isLt⟩ : _ ∧ _ ∧ _ ∧ _ ∧ _ ∧ _ ∧ _)
  simp only [Encodes.Statement, encode, pack]; omega

theorem Encodes.swi (cond : Cond) (imm : BitVec 24) : Encodes.Statement (.swi cond imm) := by
  have h := And.intro trivial (⟨cond_code_lt cond, imm.isLt⟩ : _ ∧ _)
  simp only [Encodes.Statement, encode, pack]; omega

theorem Encodes.tLslImm (rd : LReg) (rs : LReg) (amount : BitVec 5) : Encodes.Statement (.tLslImm rd rs amount) := by
  have h := And.intro trivial (⟨rd.isLt, rs.isLt, amount.isLt⟩ : _ ∧ _ ∧ _)
  simp only [Encodes.Statement, encode, pack]; omega

theorem Encodes.tLsrImm (rd : LReg) (rs : LReg) (amount : BitVec 5) : Encodes.Statement (.tLsrImm rd rs amount) := by
  have h := And.intro trivial (⟨rd.isLt, rs.isLt, amount.isLt⟩ : _ ∧ _ ∧ _)
  simp only [Encodes.Statement, encode, pack]; omega

theorem Encodes.tAsrImm (rd : LReg) (rs : LReg) (amount : BitVec 5) : Encodes.Statement (.tAsrImm rd rs amount) := by
  have h := And.intro trivial (⟨rd.isLt, rs.isLt, amount.isLt⟩ : _ ∧ _ ∧ _)
  simp only [Encodes.Statement, encode, pack]; omega

theorem Encodes.tAddReg (rd : LReg) (rs : LReg) (rn : LReg) : Encodes.Statement (.tAddReg rd rs rn) := by
  have h := And.intro trivial (⟨rd.isLt, rs.isLt, rn.isLt⟩ : _ ∧ _ ∧ _)
  simp only [Encodes.Statement, encode, pack]; omega

theorem Encodes.tSubReg (rd : LReg) (rs : LReg) (rn : LReg) : Encodes.Statement (.tSubReg rd rs rn) := by
  have h := And.intro trivial (⟨rd.isLt, rs.isLt, rn.isLt⟩ : _ ∧ _ ∧ _)
  simp only [Encodes.Statement, encode, pack]; omega

theorem Encodes.tAddImm3 (rd : LReg) (rs : LReg) (imm : BitVec 3) : Encodes.Statement (.tAddImm3 rd rs imm) := by
  have h := And.intro trivial (⟨rd.isLt, rs.isLt, imm.isLt⟩ : _ ∧ _ ∧ _)
  simp only [Encodes.Statement, encode, pack]; omega

theorem Encodes.tSubImm3 (rd : LReg) (rs : LReg) (imm : BitVec 3) : Encodes.Statement (.tSubImm3 rd rs imm) := by
  have h := And.intro trivial (⟨rd.isLt, rs.isLt, imm.isLt⟩ : _ ∧ _ ∧ _)
  simp only [Encodes.Statement, encode, pack]; omega

theorem Encodes.tMovImm (rd : LReg) (imm : BitVec 8) : Encodes.Statement (.tMovImm rd imm) := by
  have h := And.intro trivial (⟨rd.isLt, imm.isLt⟩ : _ ∧ _)
  simp only [Encodes.Statement, encode, pack]; omega

theorem Encodes.tCmpImm (rd : LReg) (imm : BitVec 8) : Encodes.Statement (.tCmpImm rd imm) := by
  have h := And.intro trivial (⟨rd.isLt, imm.isLt⟩ : _ ∧ _)
  simp only [Encodes.Statement, encode, pack]; omega

theorem Encodes.tAddImm8 (rd : LReg) (imm : BitVec 8) : Encodes.Statement (.tAddImm8 rd imm) := by
  have h := And.intro trivial (⟨rd.isLt, imm.isLt⟩ : _ ∧ _)
  simp only [Encodes.Statement, encode, pack]; omega

theorem Encodes.tSubImm8 (rd : LReg) (imm : BitVec 8) : Encodes.Statement (.tSubImm8 rd imm) := by
  have h := And.intro trivial (⟨rd.isLt, imm.isLt⟩ : _ ∧ _)
  simp only [Encodes.Statement, encode, pack]; omega

theorem Encodes.tAnd (rd : LReg) (rs : LReg) : Encodes.Statement (.tAnd rd rs) := by
  have h := And.intro trivial (⟨rd.isLt, rs.isLt⟩ : _ ∧ _)
  simp only [Encodes.Statement, encode, pack]; omega

theorem Encodes.tEor (rd : LReg) (rs : LReg) : Encodes.Statement (.tEor rd rs) := by
  have h := And.intro trivial (⟨rd.isLt, rs.isLt⟩ : _ ∧ _)
  simp only [Encodes.Statement, encode, pack]; omega

theorem Encodes.tLslReg (rd : LReg) (rs : LReg) : Encodes.Statement (.tLslReg rd rs) := by
  have h := And.intro trivial (⟨rd.isLt, rs.isLt⟩ : _ ∧ _)
  simp only [Encodes.Statement, encode, pack]; omega

theorem Encodes.tLsrReg (rd : LReg) (rs : LReg) : Encodes.Statement (.tLsrReg rd rs) := by
  have h := And.intro trivial (⟨rd.isLt, rs.isLt⟩ : _ ∧ _)
  simp only [Encodes.Statement, encode, pack]; omega

theorem Encodes.tAsrReg (rd : LReg) (rs : LReg) : Encodes.Statement (.tAsrReg rd rs) := by
  have h := And.intro trivial (⟨rd.isLt, rs.isLt⟩ : _ ∧ _)
  simp only [Encodes.Statement, encode, pack]; omega

theorem Encodes.tAdc (rd : LReg) (rs : LReg) : Encodes.Statement (.tAdc rd rs) := by
  have h := And.intro trivial (⟨rd.isLt, rs.isLt⟩ : _ ∧ _)
  simp only [Encodes.Statement, encode, pack]; omega

theorem Encodes.tSbc (rd : LReg) (rs : LReg) : Encodes.Statement (.tSbc rd rs) := by
  have h := And.intro trivial (⟨rd.isLt, rs.isLt⟩ : _ ∧ _)
  simp only [Encodes.Statement, encode, pack]; omega

theorem Encodes.tRorReg (rd : LReg) (rs : LReg) : Encodes.Statement (.tRorReg rd rs) := by
  have h := And.intro trivial (⟨rd.isLt, rs.isLt⟩ : _ ∧ _)
  simp only [Encodes.Statement, encode, pack]; omega

theorem Encodes.tTst (rd : LReg) (rs : LReg) : Encodes.Statement (.tTst rd rs) := by
  have h := And.intro trivial (⟨rd.isLt, rs.isLt⟩ : _ ∧ _)
  simp only [Encodes.Statement, encode, pack]; omega

theorem Encodes.tNeg (rd : LReg) (rs : LReg) : Encodes.Statement (.tNeg rd rs) := by
  have h := And.intro trivial (⟨rd.isLt, rs.isLt⟩ : _ ∧ _)
  simp only [Encodes.Statement, encode, pack]; omega

theorem Encodes.tCmpReg (rd : LReg) (rs : LReg) : Encodes.Statement (.tCmpReg rd rs) := by
  have h := And.intro trivial (⟨rd.isLt, rs.isLt⟩ : _ ∧ _)
  simp only [Encodes.Statement, encode, pack]; omega

theorem Encodes.tCmn (rd : LReg) (rs : LReg) : Encodes.Statement (.tCmn rd rs) := by
  have h := And.intro trivial (⟨rd.isLt, rs.isLt⟩ : _ ∧ _)
  simp only [Encodes.Statement, encode, pack]; omega

theorem Encodes.tOrr (rd : LReg) (rs : LReg) : Encodes.Statement (.tOrr rd rs) := by
  have h := And.intro trivial (⟨rd.isLt, rs.isLt⟩ : _ ∧ _)
  simp only [Encodes.Statement, encode, pack]; omega

theorem Encodes.tMul (rd : LReg) (rs : LReg) : Encodes.Statement (.tMul rd rs) := by
  have h := And.intro trivial (⟨rd.isLt, rs.isLt⟩ : _ ∧ _)
  simp only [Encodes.Statement, encode, pack]; omega

theorem Encodes.tBic (rd : LReg) (rs : LReg) : Encodes.Statement (.tBic rd rs) := by
  have h := And.intro trivial (⟨rd.isLt, rs.isLt⟩ : _ ∧ _)
  simp only [Encodes.Statement, encode, pack]; omega

theorem Encodes.tMvn (rd : LReg) (rs : LReg) : Encodes.Statement (.tMvn rd rs) := by
  have h := And.intro trivial (⟨rd.isLt, rs.isLt⟩ : _ ∧ _)
  simp only [Encodes.Statement, encode, pack]; omega

theorem Encodes.tAddHi (rd : Reg) (rs : Reg) : Encodes.Statement (.tAddHi rd rs) := by
  have h := And.intro trivial (⟨rd.isLt, rs.isLt⟩ : _ ∧ _)
  simp only [Encodes.Statement, encode, pack]; omega

theorem Encodes.tCmpHi (rd : Reg) (rs : Reg) : Encodes.Statement (.tCmpHi rd rs) := by
  have h := And.intro trivial (⟨rd.isLt, rs.isLt⟩ : _ ∧ _)
  simp only [Encodes.Statement, encode, pack]; omega

theorem Encodes.tMovHi (rd : Reg) (rs : Reg) : Encodes.Statement (.tMovHi rd rs) := by
  have h := And.intro trivial (⟨rd.isLt, rs.isLt⟩ : _ ∧ _)
  simp only [Encodes.Statement, encode, pack]; omega

theorem Encodes.tBx (rs : Reg) : Encodes.Statement (.tBx rs) := by
  have h := And.intro trivial (rs.isLt : _)
  simp only [Encodes.Statement, encode, pack]; omega

theorem Encodes.tLdrPc (rd : LReg) (off : BitVec 8) : Encodes.Statement (.tLdrPc rd off) := by
  have h := And.intro trivial (⟨rd.isLt, off.isLt⟩ : _ ∧ _)
  simp only [Encodes.Statement, encode, pack]; omega

theorem Encodes.tStrReg (rd : LReg) (rb : LReg) (ro : LReg) : Encodes.Statement (.tStrReg rd rb ro) := by
  have h := And.intro trivial (⟨rd.isLt, rb.isLt, ro.isLt⟩ : _ ∧ _ ∧ _)
  simp only [Encodes.Statement, encode, pack]; omega

theorem Encodes.tStrhReg (rd : LReg) (rb : LReg) (ro : LReg) : Encodes.Statement (.tStrhReg rd rb ro) := by
  have h := And.intro trivial (⟨rd.isLt, rb.isLt, ro.isLt⟩ : _ ∧ _ ∧ _)
  simp only [Encodes.Statement, encode, pack]; omega

theorem Encodes.tStrbReg (rd : LReg) (rb : LReg) (ro : LReg) : Encodes.Statement (.tStrbReg rd rb ro) := by
  have h := And.intro trivial (⟨rd.isLt, rb.isLt, ro.isLt⟩ : _ ∧ _ ∧ _)
  simp only [Encodes.Statement, encode, pack]; omega

theorem Encodes.tLdrsbReg (rd : LReg) (rb : LReg) (ro : LReg) : Encodes.Statement (.tLdrsbReg rd rb ro) := by
  have h := And.intro trivial (⟨rd.isLt, rb.isLt, ro.isLt⟩ : _ ∧ _ ∧ _)
  simp only [Encodes.Statement, encode, pack]; omega

theorem Encodes.tLdrReg (rd : LReg) (rb : LReg) (ro : LReg) : Encodes.Statement (.tLdrReg rd rb ro) := by
  have h := And.intro trivial (⟨rd.isLt, rb.isLt, ro.isLt⟩ : _ ∧ _ ∧ _)
  simp only [Encodes.Statement, encode, pack]; omega

theorem Encodes.tLdrhReg (rd : LReg) (rb : LReg) (ro : LReg) : Encodes.Statement (.tLdrhReg rd rb ro) := by
  have h := And.intro trivial (⟨rd.isLt, rb.isLt, ro.isLt⟩ : _ ∧ _ ∧ _)
  simp only [Encodes.Statement, encode, pack]; omega

theorem Encodes.tLdrbReg (rd : LReg) (rb : LReg) (ro : LReg) : Encodes.Statement (.tLdrbReg rd rb ro) := by
  have h := And.intro trivial (⟨rd.isLt, rb.isLt, ro.isLt⟩ : _ ∧ _ ∧ _)
  simp only [Encodes.Statement, encode, pack]; omega

theorem Encodes.tLdrshReg (rd : LReg) (rb : LReg) (ro : LReg) : Encodes.Statement (.tLdrshReg rd rb ro) := by
  have h := And.intro trivial (⟨rd.isLt, rb.isLt, ro.isLt⟩ : _ ∧ _ ∧ _)
  simp only [Encodes.Statement, encode, pack]; omega

theorem Encodes.tStrImm (rd : LReg) (rb : LReg) (off : BitVec 5) : Encodes.Statement (.tStrImm rd rb off) := by
  have h := And.intro trivial (⟨rd.isLt, rb.isLt, off.isLt⟩ : _ ∧ _ ∧ _)
  simp only [Encodes.Statement, encode, pack]; omega

theorem Encodes.tLdrImm (rd : LReg) (rb : LReg) (off : BitVec 5) : Encodes.Statement (.tLdrImm rd rb off) := by
  have h := And.intro trivial (⟨rd.isLt, rb.isLt, off.isLt⟩ : _ ∧ _ ∧ _)
  simp only [Encodes.Statement, encode, pack]; omega

theorem Encodes.tStrbImm (rd : LReg) (rb : LReg) (off : BitVec 5) : Encodes.Statement (.tStrbImm rd rb off) := by
  have h := And.intro trivial (⟨rd.isLt, rb.isLt, off.isLt⟩ : _ ∧ _ ∧ _)
  simp only [Encodes.Statement, encode, pack]; omega

theorem Encodes.tLdrbImm (rd : LReg) (rb : LReg) (off : BitVec 5) : Encodes.Statement (.tLdrbImm rd rb off) := by
  have h := And.intro trivial (⟨rd.isLt, rb.isLt, off.isLt⟩ : _ ∧ _ ∧ _)
  simp only [Encodes.Statement, encode, pack]; omega

theorem Encodes.tStrhImm (rd : LReg) (rb : LReg) (off : BitVec 5) : Encodes.Statement (.tStrhImm rd rb off) := by
  have h := And.intro trivial (⟨rd.isLt, rb.isLt, off.isLt⟩ : _ ∧ _ ∧ _)
  simp only [Encodes.Statement, encode, pack]; omega

theorem Encodes.tLdrhImm (rd : LReg) (rb : LReg) (off : BitVec 5) : Encodes.Statement (.tLdrhImm rd rb off) := by
  have h := And.intro trivial (⟨rd.isLt, rb.isLt, off.isLt⟩ : _ ∧ _ ∧ _)
  simp only [Encodes.Statement, encode, pack]; omega

theorem Encodes.tStrSp (rd : LReg) (off : BitVec 8) : Encodes.Statement (.tStrSp rd off) := by
  have h := And.intro trivial (⟨rd.isLt, off.isLt⟩ : _ ∧ _)
  simp only [Encodes.Statement, encode, pack]; omega

theorem Encodes.tLdrSp (rd : LReg) (off : BitVec 8) : Encodes.Statement (.tLdrSp rd off) := by
  have h := And.intro trivial (⟨rd.isLt, off.isLt⟩ : _ ∧ _)
  simp only [Encodes.Statement, encode, pack]; omega

theorem Encodes.tAddPc (rd : LReg) (off : BitVec 8) : Encodes.Statement (.tAddPc rd off) := by
  have h := And.intro trivial (⟨rd.isLt, off.isLt⟩ : _ ∧ _)
  simp only [Encodes.Statement, encode, pack]; omega

theorem Encodes.tAddSp (rd : LReg) (off : BitVec 8) : Encodes.Statement (.tAddSp rd off) := by
  have h := And.intro trivial (⟨rd.isLt, off.isLt⟩ : _ ∧ _)
  simp only [Encodes.Statement, encode, pack]; omega

theorem Encodes.tIncSp (off : BitVec 7) : Encodes.Statement (.tIncSp off) := by
  have h := And.intro trivial (off.isLt : _)
  simp only [Encodes.Statement, encode, pack]; omega

theorem Encodes.tDecSp (off : BitVec 7) : Encodes.Statement (.tDecSp off) := by
  have h := And.intro trivial (off.isLt : _)
  simp only [Encodes.Statement, encode, pack]; omega

theorem Encodes.tPush (r : Bool) (list : BitVec 8) : Encodes.Statement (.tPush r list) := by
  have h := And.intro trivial (⟨bool_toNat_lt r, list.isLt⟩ : _ ∧ _)
  simp only [Encodes.Statement, encode, pack]; omega

theorem Encodes.tPop (r : Bool) (list : BitVec 8) : Encodes.Statement (.tPop r list) := by
  have h := And.intro trivial (⟨bool_toNat_lt r, list.isLt⟩ : _ ∧ _)
  simp only [Encodes.Statement, encode, pack]; omega

theorem Encodes.tStmia (rb : LReg) (list : BitVec 8) : Encodes.Statement (.tStmia rb list) := by
  have h := And.intro trivial (⟨rb.isLt, list.isLt⟩ : _ ∧ _)
  simp only [Encodes.Statement, encode, pack]; omega

theorem Encodes.tLdmia (rb : LReg) (list : BitVec 8) : Encodes.Statement (.tLdmia rb list) := by
  have h := And.intro trivial (⟨rb.isLt, list.isLt⟩ : _ ∧ _)
  simp only [Encodes.Statement, encode, pack]; omega

theorem Encodes.tBeq (off : BitVec 8) : Encodes.Statement (.tBeq off) := by
  have h := And.intro trivial (off.isLt : _)
  simp only [Encodes.Statement, encode, pack]; omega

theorem Encodes.tBne (off : BitVec 8) : Encodes.Statement (.tBne off) := by
  have h := And.intro trivial (off.isLt : _)
  simp only [Encodes.Statement, encode, pack]; omega

theorem Encodes.tBcs (off : BitVec 8) : Encodes.Statement (.tBcs off) := by
  have h := And.intro trivial (off.isLt : _)
  simp only [Encodes.Statement, encode, pack]; omega

theorem Encodes.tBcc (off : BitVec 8) : Encodes.Statement (.tBcc off) := by
  have h := And.intro trivial (off.isLt : _)
  simp only [Encodes.Statement, encode, pack]; omega

theorem Encodes.tBmi (off : BitVec 8) : Encodes.Statement (.tBmi off) := by
  have h := And.intro trivial (off.isLt : _)
  simp only [Encodes.Statement, encode, pack]; omega

theorem Encodes.tBpl (off : BitVec 8) : Encodes.Statement (.tBpl off) := by
  have h := And.intro trivial (off.isLt : _)
  simp only [Encodes.Statement, encode, pack]; omega

theorem Encodes.tBvs (off : BitVec 8) : Encodes.Statement (.tBvs off) := by
  have h := And.intro trivial (off.isLt : _)
  simp only [Encodes.Statement, encode, pack]; omega

theorem Encodes.tBvc (off : BitVec 8) : Encodes.Statement (.tBvc off) := by
  have h := And.intro trivial (off.isLt : _)
  simp only [Encodes.Statement, encode, pack]; omega

theorem Encodes.tBhi (off : BitVec 8) : Encodes.Statement (.tBhi off) := by
  have h := And.intro trivial (off.isLt : _)
  simp only [Encodes.Statement, encode, pack]; omega

theorem Encodes.tBls (off : BitVec 8) : Encodes.Statement (.tBls off) := by
  have h := And.intro trivial (off.isLt : _)
  simp only [Encodes.Statement, encode, pack]; omega

theorem Encodes.tBge (off : BitVec 8) : Encodes.Statement (.tBge off) := by
  have h := And.intro trivial (off.isLt : _)
  simp only [Encodes.Statement, encode, pack]; omega

theorem Encodes.tBlt (off : BitVec 8) : Encodes.Statement (.tBlt off) := by
  have h := And.intro trivial (off.isLt : _)
  simp only [Encodes.Statement, encode, pack]; omega

theorem Encodes.tBgt (off : BitVec 8) : Encodes.Statement (.tBgt off) := by
  have h := And.intro trivial (off.isLt : _)
  simp only [Encodes.Statement, encode, pack]; omega

theorem Encodes.tBle (off : BitVec 8) : Encodes.Statement (.tBle off) := by
  have h := And.intro trivial (off.isLt : _)
  simp only [Encodes.Statement, encode, pack]; omega

theorem Encodes.tUndefined (imm : BitVec 8) : Encodes.Statement (.tUndefined imm) := by
  have h := And.intro trivial (imm.isLt : _)
  simp only [Encodes.Statement, encode, pack]; omega

theorem Encodes.tSwi (imm : BitVec 8) : Encodes.Statement (.tSwi imm) := by
  have h := And.intro trivial (imm.isLt : _)
  simp only [Encodes.Statement, encode, pack]; omega

theorem Encodes.tB (off : BitVec 11) : Encodes.Statement (.tB off) := by
  have h := And.intro trivial (off.isLt : _)
  simp only [Encodes.Statement, encode, pack]; omega

theorem Encodes.tBlHi (off : BitVec 11) : Encodes.Statement (.tBlHi off) := by
  have h := And.intro trivial (off.isLt : _)
  simp only [Encodes.Statement, encode, pack]; omega

theorem Encodes.tBlLo (off : BitVec 11) : Encodes.Statement (.tBlLo off) := by
  have h := And.intro trivial (off.isLt : _)
  simp only [Encodes.Statement, encode, pack]; omega

end Sys2Proof.Laws
end

