-- ==== Sys2Proof/Tests/Slice0.lean ====
section
/-! SUPPORT. Tests: ill-formed instructions are refused, words written out from the encodings decode to their instructions, single
steps give what 95_test_vectors.md gives, and for every statement with hypotheses a state that meets them. -/

set_option Elab.async false
set_option maxRecDepth 20000

namespace Sys2Proof.Tests

open Sys2Proof.Machine Sys2Proof.Claims

/-! ## Helpers -/

/-- A state in a mode and a state (Thumb or ARM), about to execute at 0x8000; all registers 0, all addresses storage. -/
def cpu (m : BitVec 5) (t : Bool) : State := { State.reset with pc := 0x8000#32, cpsr := { Psr.zero with m := m, t := t } }

/-- Supervisor mode, ARM state. -/
def svc : State := cpu 0b10011#5 false

/-- User mode, ARM state. -/
def usr : State := cpu 0b10000#5 false

/-- System mode, Thumb state. -/
def thb : State := cpu 0b11111#5 true

/-- The last address of the ARM state from which execution may go on without wrapping. -/
def edge : State := { svc with pc := 0xFFFFFFF8#32 }

/-- The state with the first registers set. -/
def with3 (s : State) (r0 r1 r2 : Word) : State := { s with regs := { s.regs with r0 := r0, r1 := r1, r2 := r2 } }

/-- The state with words written to memory, in its byte order. -/
def poke (s : State) (ws : List (Word × Word)) : State :=
  { s with mem := ws.foldl (fun m p => m.store s.env.params.bigend .word p.1 p.2) s.mem }

/-- The state in which accesses of a kind to an address range abort. -/
def aborting (s : State) (lo hi : Nat) (kind : AccessKind) : State :=
  { s with env := { s.env with aborts :=
      [{ lo := lo, hi := hi, sizes := [.byte, .half, .word], kinds := [kind], privs := [false, true] }] } }

/-- The rule of a coprocessor that answers every instruction alike, gives the first two words of its bank and takes two. -/
def copRule (a : CopResponse) : CopRule :=
  { state := 0, kinds := [.cdp, .ldc, .stc, .mcr, .mrc], privs := [false, true], op1 := none, op2 := none, crn := none, crd := none,
    crm := none, long := none, response := a, gives := .bank 0, givesMore := [.bank 1], takes := 0, takesMore := [1],
    sets := [], next := 0, nextAborted := 1 }

/-- What nRESET makes of the coprocessor of the tests. -/
def unreset : CopReset := { state := 7, bank := [9], waits := [] }

/-- The state with a coprocessor 1 that answers every instruction alike after a busy-wait. -/
def cop (s : State) (a : CopResponse) (wait : Nat) : State :=
  { s with env := { s.env with coprocs := [{ number := 1#4, state := 0, bank := [5, 6], waits := [wait], rules := [copRule a], atReset := unreset }] } }

/-- The state right after a User-bank LDM. -/
def afterLdm (s : State) : State := { s with usrLdm := true }

/-- The state in which MRS has read ones in the reserved bits of the CPSR and of SPSR_svc. -/
def hasRead (s : State) : State := { s with psrRead := { s.psrRead with cpsr := some 0xFFFFF#20, svc := some 0xFFFFF#20 } }

/-- The state with misaligned transfers as ARMv4T has them. -/
def rotating (s : State) : State := { s with env := { s.env with params := { s.env.params with misaligned := .armv4t } } }

/-- The state with the debug logic enabled. -/
def debugged (s : State) : State := { s with env := { s.env with params := { s.env.params with dbgen := true } } }

/-- The state with a request on the interrupt pins. -/
def requested (s : State) (nFiq nIrq : Bool) : State :=
  { s with env := { s.env with pins := { s.env.pins with nFiq := nFiq, nIrq := nIrq } } }

/-- What a result's next state holds. -/
def seen {α : Type} (r : Host.Outcome State Fault Refusal) (f : State → α) : Option α :=
  match r with
  | .next t => some (f t)
  | .fault _ => none
  | .refused _ => none

/-- Whether a result is a next state. -/
def goesOn (r : Host.Outcome State Fault Refusal) : Bool := (seen r (fun _ => ())).isSome

/-- Whether a word decodes to an instruction. -/
def reads (t : Bool) (w : Word) (i : Instr) : Bool :=
  match decode t w with
  | .ok j => decide (j = i)
  | .error _ => false

/-- One step of an instruction placed where the step fetches. -/
def ran {α : Type} (s : State) (w : Nat) (f : State → α) : Option α :=
  seen (step (s.withFetchWord (if s.cpsr.t then 16 else 32) w)) f

/-! ## Ill-formed instructions are refused by the check -/

theorem test_refuses_never : Instr.violation (.b .nv 0#24) = some .condNever := by decide
theorem test_refuses_should_be_zero : Instr.violation (.movImm .al false 1#4 0#4 0#4 0#8) = some (.operands .shouldBeZero) := by decide
theorem test_refuses_test_destination : Instr.violation (.cmpImm .al 1#4 2#4 0#4 0#8) = some (.operands .shouldBeZero) := by decide
theorem test_refuses_shift_amount_pc :
    Instr.violation (.addShr .al false 1#4 2#4 15#4 .lsl 3#4) = some (.operands .shiftAmountPc) := by decide
theorem test_refuses_post_indexed_write_back :
    Instr.violation (.ldrhImm .al false true true 1#4 2#4 4#8) = some (.operands .postIndexedWriteBack) := by decide
theorem test_refuses_low_registers : Instr.violation (.tAddHi 1#4 2#4) = some (.operands .lowRegisters) := by decide
theorem test_refuses_psr_transfer_pc : Instr.violation (.mrs .al false 15#4) = some (.operands .psrTransferPc) := by decide
theorem test_refuses_multiply_pc :
    Instr.violation (.mla .al false 15#4 1#4 2#4 3#4) = some (.operands .multiplyPc) := by decide
theorem test_refuses_multiply_overlap :
    Instr.violation (.umull .al false 1#4 1#4 2#4 3#4) = some (.operands .multiplyOverlap) := by decide
theorem test_refuses_write_back_pc :
    Instr.violation (.ldrImm .al true true 15#4 1#4 0#12) = some (.operands .writeBackPc) := by decide
theorem test_refuses_write_back_transferred :
    Instr.violation (.strImm .al true true 1#4 1#4 0#12) = some (.operands .writeBackTransferred) := by decide
theorem test_refuses_offset_pc :
    Instr.violation (.ldrReg .al true false 1#4 2#4 0#5 .lsl 15#4) = some (.operands .offsetPc) := by decide
theorem test_refuses_offset_is_base :
    Instr.violation (.ldrReg .al true true 1#4 2#4 0#5 .lsl 1#4) = some (.operands .offsetIsBase) := by decide
theorem test_refuses_transfer_pc :
    Instr.violation (.ldrbImm .al true false 1#4 15#4 0#12) = some (.operands .transferPc) := by decide
theorem test_refuses_load_base_in_list :
    Instr.violation (.ldmia .al false true 1#4 0x0002#16) = some (.operands .loadBaseInList) := by decide
theorem test_refuses_store_base_in_list :
    Instr.violation (.stmia .al false true 1#4 0x0003#16) = some (.operands .storeBaseInList) := by decide
theorem test_refuses_empty_list : Instr.violation (.tPush false 0#8) = some (.operands .emptyList) := by decide
theorem test_refuses_block_base_pc :
    Instr.violation (.stmdb .al false false 15#4 0x0001#16) = some (.operands .blockBasePc) := by decide
theorem test_refuses_user_bank_write_back :
    Instr.violation (.ldmia .al true true 0#4 0x2000#16) = some (.operands .userBankWriteBack) := by decide
theorem test_refuses_swap_pc : Instr.violation (.swp .al 1#4 15#4 2#4) = some (.operands .swapPc) := by decide
theorem test_refuses_swap_overlap : Instr.violation (.swpb .al 1#4 1#4 2#4) = some (.operands .swapOverlap) := by decide
theorem test_refuses_mcr_pc : Instr.violation (.mcr .al 0#3 0#4 15#4 1#4 0#3 0#4) = some (.operands .mcrPc) := by decide
theorem test_refuses_coprocessor_unindexed :
    Instr.violation (.ldc .al false true false false 1#4 0#4 1#4 0#8) = some (.operands .coprocessorUnindexed) := by decide
theorem test_refuses_coprocessor_write_back_pc :
    Instr.violation (.stc .al true true false true 15#4 0#4 1#4 0#8) = some (.operands .coprocessorWriteBackPc) := by decide
theorem test_base_lowest_in_list_is_allowed : Instr.violation (.stmia .al false true 0#4 0x0003#16) = none := by decide

/-! ## Decoding: words written out from the encodings of 30_encoding.md and the opcode table -/

theorem test_decode_format_A1 : (
    reads false 0b00000001001011111111111100010100 (.bx .eq 4#4)) = true := by decide

theorem test_decode_format_A2 : (
    reads false 0b00010000000011000000001110010110 (.mul .ne false 12#4 0#4 3#4 6#4) &&
    reads false 0b00100000001100100101100010011011 (.mla .cs true 2#4 5#4 8#4 11#4)) = true := by decide

theorem test_decode_format_A3 : (
    reads false 0b00110000100001111010110110010001 (.umull .cc false 7#4 10#4 13#4 1#4) &&
    reads false 0b01000000101111000000001110010110 (.umlal .mi true 12#4 0#4 3#4 6#4) &&
    reads false 0b01010000110000100101100010011011 (.smull .pl false 2#4 5#4 8#4 11#4) &&
    reads false 0b01100000111101111010110110010001 (.smlal .vs true 7#4 10#4 13#4 1#4)) = true := by decide

theorem test_decode_format_A4 : (
    reads false 0b01110001000010011100000010010000 (.swp .vc 9#4 12#4 0#4) &&
    reads false 0b10000001010011100010000010010101 (.swpb .hi 14#4 2#4 5#4)) = true := by decide

theorem test_decode_format_A5 : (
    reads false 0b10010000100011010001000010110100 (.strhReg .ls false true false 13#4 1#4 4#4) &&
    reads false 0b10110000100110001011000010111110 (.ldrhReg .lt false true false 8#4 11#4 14#4) &&
    reads false 0b11010000100100110110000011011001 (.ldrsbReg .le false true false 3#4 6#4 9#4) &&
    reads false 0b00000000100111010001000011110100 (.ldrshReg .eq false true false 13#4 1#4 4#4)) = true := by decide

theorem test_decode_format_A6 : (
    reads false 0b10100001011000110110011110111011 (.strhImm .ge true false true 3#4 6#4 123#8) &&
    reads false 0b11000001011111010001011110111011 (.ldrhImm .gt true false true 13#4 1#4 123#8) &&
    reads false 0b11100001011110001011011111011011 (.ldrsbImm .al true false true 8#4 11#4 123#8) &&
    reads false 0b00010001011100110110011111111011 (.ldrshImm .ne true false true 3#4 6#4 123#8)) = true := by decide

theorem test_decode_format_A7 : (
    reads false 0b00100001000011110010000000000000 (.mrs .cs false 2#4)) = true := by decide

theorem test_decode_format_A8 : (
    reads false 0b00110001011001011111000000001010 (.msrReg .cc true 5#4 10#4)) = true := by decide

theorem test_decode_format_A9 : (
    reads false 0b01000011001001011111011111101011 (.msrImm .mi false 5#4 7#4 235#8)) = true := by decide

theorem test_decode_format_A10 : (
    reads false 0b01010010000101011000101111110101 (.andImm .pl true 5#4 8#4 11#4 245#8) &&
    reads false 0b10000010001001011000101111110101 (.eorImm .hi false 5#4 8#4 11#4 245#8) &&
    reads false 0b10110010010101011000101111110101 (.subImm .lt true 5#4 8#4 11#4 245#8) &&
    reads false 0b11100010011001011000101111110101 (.rsbImm .al false 5#4 8#4 11#4 245#8) &&
    reads false 0b00100010100101011000101111110101 (.addImm .cs true 5#4 8#4 11#4 245#8) &&
    reads false 0b01010010101001011000101111110101 (.adcImm .pl false 5#4 8#4 11#4 245#8) &&
    reads false 0b10000010110101011000101111110101 (.sbcImm .hi true 5#4 8#4 11#4 245#8) &&
    reads false 0b10110010111001011000101111110101 (.rscImm .lt false 5#4 8#4 11#4 245#8) &&
    reads false 0b11100011000101011000101111110101 (.tstImm .al 5#4 8#4 11#4 245#8) &&
    reads false 0b00100011001101011000101111110101 (.teqImm .cs 5#4 8#4 11#4 245#8) &&
    reads false 0b01010011010101011000101111110101 (.cmpImm .pl 5#4 8#4 11#4 245#8) &&
    reads false 0b10000011011101011000101111110101 (.cmnImm .hi 5#4 8#4 11#4 245#8) &&
    reads false 0b10110011100101011000101111110101 (.orrImm .lt true 5#4 8#4 11#4 245#8) &&
    reads false 0b11100011101001011000101111110101 (.movImm .al false 5#4 8#4 11#4 245#8) &&
    reads false 0b00100011110101011000101111110101 (.bicImm .cs true 5#4 8#4 11#4 245#8) &&
    reads false 0b01010011111001011000101111110101 (.mvnImm .pl false 5#4 8#4 11#4 245#8)) = true := by decide

theorem test_decode_format_A11 : (
    reads false 0b01100000000111010001010111001010 (.andShi .vs true 13#4 1#4 11#5 .asr 10#4) &&
    reads false 0b10010000001011010001010110101010 (.eorShi .ls false 13#4 1#4 11#5 .lsr 10#4) &&
    reads false 0b11000000010111010001010110001010 (.subShi .gt true 13#4 1#4 11#5 .lsl 10#4) &&
    reads false 0b00000000011011010001010111101010 (.rsbShi .eq false 13#4 1#4 11#5 .ror 10#4) &&
    reads false 0b00110000100111010001010111001010 (.addShi .cc true 13#4 1#4 11#5 .asr 10#4) &&
    reads false 0b01100000101011010001010110101010 (.adcShi .vs false 13#4 1#4 11#5 .lsr 10#4) &&
    reads false 0b10010000110111010001010110001010 (.sbcShi .ls true 13#4 1#4 11#5 .lsl 10#4) &&
    reads false 0b11000000111011010001010111101010 (.rscShi .gt false 13#4 1#4 11#5 .ror 10#4) &&
    reads false 0b00000001000111010001010111001010 (.tstShi .eq 13#4 1#4 11#5 .asr 10#4) &&
    reads false 0b00110001001111010001010110101010 (.teqShi .cc 13#4 1#4 11#5 .lsr 10#4) &&
    reads false 0b01100001010111010001010110001010 (.cmpShi .vs 13#4 1#4 11#5 .lsl 10#4) &&
    reads false 0b10010001011111010001010111101010 (.cmnShi .ls 13#4 1#4 11#5 .ror 10#4) &&
    reads false 0b11000001100111010001010111001010 (.orrShi .gt true 13#4 1#4 11#5 .asr 10#4) &&
    reads false 0b00000001101011010001010110101010 (.movShi .eq false 13#4 1#4 11#5 .lsr 10#4) &&
    reads false 0b00110001110111010001010110001010 (.bicShi .cc true 13#4 1#4 11#5 .lsl 10#4) &&
    reads false 0b01100001111011010001010111101010 (.mvnShi .vs false 13#4 1#4 11#5 .ror 10#4)) = true := by decide

theorem test_decode_format_A12 : (
    reads false 0b01110000000000110110100101110000 (.andShr .vc false 3#4 6#4 9#4 .ror 0#4) &&
    reads false 0b10100000001100110110100101010000 (.eorShr .ge true 3#4 6#4 9#4 .asr 0#4) &&
    reads false 0b11010000010000110110100100110000 (.subShr .le false 3#4 6#4 9#4 .lsr 0#4) &&
    reads false 0b00010000011100110110100100010000 (.rsbShr .ne true 3#4 6#4 9#4 .lsl 0#4) &&
    reads false 0b01000000100000110110100101110000 (.addShr .mi false 3#4 6#4 9#4 .ror 0#4) &&
    reads false 0b01110000101100110110100101010000 (.adcShr .vc true 3#4 6#4 9#4 .asr 0#4) &&
    reads false 0b10100000110000110110100100110000 (.sbcShr .ge false 3#4 6#4 9#4 .lsr 0#4) &&
    reads false 0b11010000111100110110100100010000 (.rscShr .le true 3#4 6#4 9#4 .lsl 0#4) &&
    reads false 0b00010001000100110110100101110000 (.tstShr .ne 3#4 6#4 9#4 .ror 0#4) &&
    reads false 0b01000001001100110110100101010000 (.teqShr .mi 3#4 6#4 9#4 .asr 0#4) &&
    reads false 0b01110001010100110110100100110000 (.cmpShr .vc 3#4 6#4 9#4 .lsr 0#4) &&
    reads false 0b10100001011100110110100100010000 (.cmnShr .ge 3#4 6#4 9#4 .lsl 0#4) &&
    reads false 0b11010001100000110110100101110000 (.orrShr .le false 3#4 6#4 9#4 .ror 0#4) &&
    reads false 0b00010001101100110110100101010000 (.movShr .ne true 3#4 6#4 9#4 .asr 0#4) &&
    reads false 0b01000001110000110110100100110000 (.bicShr .mi false 3#4 6#4 9#4 .lsr 0#4) &&
    reads false 0b01110001111100110110100100010000 (.mvnShr .vc true 3#4 6#4 9#4 .lsl 0#4)) = true := by decide

theorem test_decode_format_A13 : (
    reads false 0b10000101001101011000000011110101 (.ldrImm .hi false true 5#4 8#4 245#12) &&
    reads false 0b10010100000101111010000111101011 (.ldrImmPost .ls false 7#4 10#4 491#12) &&
    reads false 0b11000101011110101101000011110101 (.ldrbImm .gt false true 10#4 13#4 245#12) &&
    reads false 0b11010100010111000000000111101011 (.ldrbImmPost .le false 12#4 0#4 491#12) &&
    reads false 0b00010101001000000011000011110101 (.strImm .ne false true 0#4 3#4 245#12) &&
    reads false 0b00100100000000100101000111101011 (.strImmPost .cs false 2#4 5#4 491#12) &&
    reads false 0b01010101011001011000000011110101 (.strbImm .pl false true 5#4 8#4 245#12) &&
    reads false 0b01100100010001111010000111101011 (.strbImmPost .vs false 7#4 10#4 491#12) &&
    reads false 0b10010100101101111010000111101011 (.ldrtImm .ls true 7#4 10#4 491#12) &&
    reads false 0b10110100111100100101000111101011 (.ldrbtImm .lt true 2#4 5#4 491#12) &&
    reads false 0b11010100101011000000000111101011 (.strtImm .le true 12#4 0#4 491#12) &&
    reads false 0b00000100111001111010000111101011 (.strbtImm .eq true 7#4 10#4 491#12)) = true := by decide

theorem test_decode_format_A14 : (
    reads false 0b10100111001100000011101011101100 (.ldrReg .ge false true 0#4 3#4 21#5 .ror 12#4) &&
    reads false 0b10110110000100100101010110001110 (.ldrRegPost .lt false 2#4 5#4 11#5 .lsl 14#4) &&
    reads false 0b11100111011101011000101011100010 (.ldrbReg .al false true 5#4 8#4 21#5 .ror 2#4) &&
    reads false 0b00000110010101111010010110000100 (.ldrbRegPost .eq false 7#4 10#4 11#5 .lsl 4#4) &&
    reads false 0b00110111001010101101101011100111 (.strReg .cc false true 10#4 13#4 21#5 .ror 7#4) &&
    reads false 0b01000110000011000000010110001001 (.strRegPost .mi false 12#4 0#4 11#5 .lsl 9#4) &&
    reads false 0b01110111011000000011101011101100 (.strbReg .vc false true 0#4 3#4 21#5 .ror 12#4) &&
    reads false 0b10000110010000100101010110001110 (.strbRegPost .hi false 2#4 5#4 11#5 .lsl 14#4) &&
    reads false 0b10100110001111000000010111001001 (.ldrtReg .ge false 12#4 0#4 11#5 .asr 9#4) &&
    reads false 0b11000110011101111010010110000100 (.ldrbtReg .gt false 7#4 10#4 11#5 .lsl 4#4) &&
    reads false 0b11100110001000100101010111001110 (.strtReg .al false 2#4 5#4 11#5 .asr 14#4) &&
    reads false 0b00010110011011000000010110001001 (.strbtReg .ne false 12#4 0#4 11#5 .lsl 9#4)) = true := by decide

theorem test_decode_format_A15 : (
    reads false 0b00100111001101010111100110111110 (.undefined .cs 633805#20 14#4)) = true := by decide

theorem test_decode_format_A16 : (
    reads false 0b00111000101110100110000111101011 (.ldmia .cc false true 10#4 25067#16) &&
    reads false 0b01001001110100000110000111101011 (.ldmib .mi true false 0#4 25067#16) &&
    reads false 0b01011000001101010110000111101011 (.ldmda .pl false true 5#4 25067#16) &&
    reads false 0b01101001010110100110000111101011 (.ldmdb .vs true false 10#4 25067#16) &&
    reads false 0b01111000101000000110000111101011 (.stmia .vc false true 0#4 25067#16) &&
    reads false 0b10001001110001010110000111101011 (.stmib .hi true false 5#4 25067#16) &&
    reads false 0b10011000001010100110000111101011 (.stmda .ls false true 10#4 25067#16) &&
    reads false 0b10101001010000000110000111101011 (.stmdb .ge true false 0#4 25067#16)) = true := by decide

theorem test_decode_format_A17 : (
    reads false 0b10111010010010110110000111101011 (.b .lt 4940267#24) &&
    reads false 0b11001011010010110110000111101011 (.bl .gt 4940267#24)) = true := by decide

theorem test_decode_format_A18 : (
    reads false 0b11011100101101101001101111110101 (.ldc .le false true false true 6#4 9#4 11#4 245#8) &&
    reads false 0b11101101010010111110101111110101 (.stc .al true false true false 11#4 14#4 11#4 245#8)) = true := by decide

theorem test_decode_format_A19 : (
    reads false 0b00001110101101111010101101000100 (.cdp .eq 11#4 7#4 10#4 11#4 2#3 4#4)) = true := by decide

theorem test_decode_format_A20 : (
    reads false 0b00011110000011000000101110011001 (.mcr .ne 0#3 12#4 0#4 11#4 4#3 9#4) &&
    reads false 0b00101110010100100101101111011110 (.mrc .cs 2#3 2#4 5#4 11#4 6#3 14#4)) = true := by decide

theorem test_decode_format_A21 : (
    reads false 0b00111111010010110110000111101011 (.swi .cc 4940267#24)) = true := by decide

theorem test_decode_format_T1 : (
    reads true 0b0000010111110001 (.tLslImm 1#3 6#3 23#5) &&
    reads true 0b0000110111000011 (.tLsrImm 3#3 0#3 23#5) &&
    reads true 0b0001010111010101 (.tAsrImm 5#3 2#3 23#5)) = true := by decide

theorem test_decode_format_T2 : (
    reads true 0b0001100001100111 (.tAddReg 7#3 4#3 1#3) &&
    reads true 0b0001101011110001 (.tSubReg 1#3 6#3 3#3) &&
    reads true 0b0001110101000011 (.tAddImm3 3#3 0#3 5#3) &&
    reads true 0b0001111111010101 (.tSubImm3 5#3 2#3 7#3)) = true := by decide

theorem test_decode_format_T3 : (
    reads true 0b0010000111101011 (.tMovImm 1#3 235#8) &&
    reads true 0b0010101111101011 (.tCmpImm 3#3 235#8) &&
    reads true 0b0011010111101011 (.tAddImm8 5#3 235#8) &&
    reads true 0b0011111111101011 (.tSubImm8 7#3 235#8)) = true := by decide

theorem test_decode_format_T4 : (
    reads true 0b0100000000001100 (.tAnd 4#3 1#3) &&
    reads true 0b0100000001011110 (.tEor 6#3 3#3) &&
    reads true 0b0100000010101000 (.tLslReg 0#3 5#3) &&
    reads true 0b0100000011111010 (.tLsrReg 2#3 7#3) &&
    reads true 0b0100000100001100 (.tAsrReg 4#3 1#3) &&
    reads true 0b0100000101011110 (.tAdc 6#3 3#3) &&
    reads true 0b0100000110101000 (.tSbc 0#3 5#3) &&
    reads true 0b0100000111111010 (.tRorReg 2#3 7#3) &&
    reads true 0b0100001000001100 (.tTst 4#3 1#3) &&
    reads true 0b0100001001011110 (.tNeg 6#3 3#3) &&
    reads true 0b0100001010101000 (.tCmpReg 0#3 5#3) &&
    reads true 0b0100001011111010 (.tCmn 2#3 7#3) &&
    reads true 0b0100001100001100 (.tOrr 4#3 1#3) &&
    reads true 0b0100001101011110 (.tMul 6#3 3#3) &&
    reads true 0b0100001110101000 (.tBic 0#3 5#3) &&
    reads true 0b0100001111111010 (.tMvn 2#3 7#3)) = true := by decide

theorem test_decode_format_T5 : (
    reads true 0b0100010001111010 (.tAddHi 2#4 15#4) &&
    reads true 0b0100010110001100 (.tCmpHi 12#4 1#4) &&
    reads true 0b0100011001011110 (.tMovHi 6#4 11#4) &&
    reads true 0b0100011101010000 (.tBx 10#4)) = true := by decide

theorem test_decode_format_T6 : (
    reads true 0b0100100111101011 (.tLdrPc 1#3 235#8)) = true := by decide

theorem test_decode_format_T7 : (
    reads true 0b0101000011110001 (.tStrReg 1#3 6#3 3#3) &&
    reads true 0b0101010111010101 (.tStrbReg 5#3 2#3 7#3) &&
    reads true 0b0101100011110001 (.tLdrReg 1#3 6#3 3#3) &&
    reads true 0b0101110111010101 (.tLdrbReg 5#3 2#3 7#3)) = true := by decide

theorem test_decode_format_T8 : (
    reads true 0b0101001101000011 (.tStrhReg 3#3 0#3 5#3) &&
    reads true 0b0101011001100111 (.tLdrsbReg 7#3 4#3 1#3) &&
    reads true 0b0101101101000011 (.tLdrhReg 3#3 0#3 5#3) &&
    reads true 0b0101111001100111 (.tLdrshReg 7#3 4#3 1#3)) = true := by decide

theorem test_decode_format_T9 : (
    reads true 0b0110010111110001 (.tStrImm 1#3 6#3 23#5) &&
    reads true 0b0110110111000011 (.tLdrImm 3#3 0#3 23#5) &&
    reads true 0b0111010111010101 (.tStrbImm 5#3 2#3 23#5) &&
    reads true 0b0111110111100111 (.tLdrbImm 7#3 4#3 23#5)) = true := by decide

theorem test_decode_format_T10 : (
    reads true 0b1000010111110001 (.tStrhImm 1#3 6#3 23#5) &&
    reads true 0b1000110111000011 (.tLdrhImm 3#3 0#3 23#5)) = true := by decide

theorem test_decode_format_T11 : (
    reads true 0b1001011111101011 (.tStrSp 7#3 235#8) &&
    reads true 0b1001100111101011 (.tLdrSp 1#3 235#8)) = true := by decide

theorem test_decode_format_T12 : (
    reads true 0b1010001111101011 (.tAddPc 3#3 235#8) &&
    reads true 0b1010110111101011 (.tAddSp 5#3 235#8)) = true := by decide

theorem test_decode_format_T13 : (
    reads true 0b1011000001010111 (.tIncSp 87#7) &&
    reads true 0b1011000011010111 (.tDecSp 87#7)) = true := by decide

theorem test_decode_format_T14 : (
    reads true 0b1011010111101011 (.tPush true 235#8) &&
    reads true 0b1011110011101011 (.tPop false 235#8)) = true := by decide

theorem test_decode_format_T15 : (
    reads true 0b1100011111101011 (.tStmia 7#3 235#8) &&
    reads true 0b1100100111101011 (.tLdmia 1#3 235#8)) = true := by decide

theorem test_decode_format_T16 : (
    reads true 0b1101000011010111 (.tBeq 215#8) &&
    reads true 0b1101000111010111 (.tBne 215#8) &&
    reads true 0b1101001011010111 (.tBcs 215#8) &&
    reads true 0b1101001111010111 (.tBcc 215#8) &&
    reads true 0b1101010011010111 (.tBmi 215#8) &&
    reads true 0b1101010111010111 (.tBpl 215#8) &&
    reads true 0b1101011011010111 (.tBvs 215#8) &&
    reads true 0b1101011111010111 (.tBvc 215#8) &&
    reads true 0b1101100011010111 (.tBhi 215#8) &&
    reads true 0b1101100111010111 (.tBls 215#8) &&
    reads true 0b1101101011010111 (.tBge 215#8) &&
    reads true 0b1101101111010111 (.tBlt 215#8) &&
    reads true 0b1101110011010111 (.tBgt 215#8) &&
    reads true 0b1101110111010111 (.tBle 215#8) &&
    reads true 0b1101111011101110 (.tUndefined 238#8)) = true := by decide

theorem test_decode_format_T17 : (
    reads true 0b1101111111010111 (.tSwi 215#8)) = true := by decide

theorem test_decode_format_T18 : (
    reads true 0b1110001111010111 (.tB 983#11)) = true := by decide

theorem test_decode_format_T19 : (
    reads true 0b1111001111010111 (.tBlHi 983#11) &&
    reads true 0b1111101111010111 (.tBlLo 983#11)) = true := by decide


/-! ## Single steps, with the values of 95_test_vectors.md (the vector's name stands in the theorem's) -/

theorem test_S5_lsr_32 : ran (with3 svc 0 0x80000001 0) 0xE1B00021 (fun t => (t.regs.r0, t.cpsr.c, t.cpsr.z)) = some (0, true, true) := by decide
theorem test_S11_rrx :
    (let s := with3 svc 0 2 0
     ran { s with cpsr := { s.cpsr with c := true } } 0xE1B00061 (fun t => (t.regs.r0, t.cpsr.c, t.cpsr.n))) = some (0x80000001#32, false, true) := by decide
theorem test_S18_asr_by_register : ran (with3 svc 0 0x80000000 40) 0xE1B00251 (fun t => (t.regs.r0, t.cpsr.c)) = some (0xFFFFFFFF#32, true) := by decide
theorem test_D1_adds_overflow :
    ran (with3 svc 0 0x7FFFFFFF 1) 0xE0910002 (fun t => (t.regs.r0, t.cpsr.n, t.cpsr.c, t.cpsr.v)) = some (0x80000000#32, true, false, true) := by decide
theorem test_D5_subs_borrow :
    ran (with3 svc 0 0 1) 0xE0510002 (fun t => (t.regs.r0, t.cpsr.c, t.cpsr.v)) = some (0xFFFFFFFF#32, false, false) := by decide
theorem test_D25_pc_with_shift_by_register : ran (with3 svc 0 0x10 0) 0xE08F0211 (fun t => t.regs.r0) = some 0x801C#32 := by decide
theorem test_D27_mov_pc : ran (with3 svc 0 0x9003 0) 0xE1A0F001 State.pc = some 0x9000#32 := by decide
theorem test_M6_user_msr_keeps_control :
    ran (with3 usr 0x900000D3 0 0) 0xE129F000 (fun t => t.cpsr.toWord) = some 0x90000010#32 := by decide
theorem test_M8_msr_spsr_irq :
    ran (with3 (cpu 0b10010#5 false) 0x40000030 0 0) 0xE169F000 (fun t => t.spsr.irq.toWord) = some 0x40000030#32 := by decide
theorem test_X5_umull :
    ran { svc with regs := { svc.regs with r2 := 0x80000000, r3 := 0x80000000 } } 0xE0810392 (fun t => (t.regs.r0, t.regs.r1)) =
      some (0, 0x40000000#32) := by decide
theorem test_X8_smull :
    ran { svc with regs := { svc.regs with r2 := 0xFFFFFFFE, r3 := 3 } } 0xE0C10392 (fun t => (t.regs.r0, t.regs.r1)) =
      some (0xFFFFFFFA#32, 0xFFFFFFFF#32) := by decide
theorem test_B3_branch_back : ran svc 0xEAFFFFF9 State.pc = some 0x7FEC#32 := by decide
theorem test_B8_bx_to_thumb : ran (with3 svc 0x9001 0 0) 0xE12FFF10 (fun t => (t.pc, t.cpsr.t)) = some (0x9000#32, true) := by decide
theorem test_L6_ldr_post_indexed :
    ran (with3 (poke svc [(0x1000, 0x44332211)]) 0 0x1000 4) 0xE6110002 (fun t => (t.regs.r0, t.regs.r1)) =
      some (0x44332211#32, 0xFFC#32) := by decide
theorem test_L12_ldrsh :
    ran (with3 (poke svc [(0x1004, 0x88776655)]) 0 0x1000 4) 0xE1D100F6 (fun t => t.regs.r0) = some 0xFFFF8877#32 := by decide
theorem test_L21_strh :
    ran (with3 (poke svc [(0x1000, 0x44332211)]) 0xCAFEF00D 0x1000 4) 0xE1C100B2 (fun t => t.mem.word false 0x1000) =
      some 0xF00D2211#32 := by decide
theorem test_L29_ldr_aborts :
    ran (aborting (with3 usr 0xCAFEF00D 0x1000 4) 0x1000 0x1007 .read) 0xE5B10004
      (fun t => (t.regs.r0, t.regs.r1, t.regs.r14Abt, t.pc, t.cpsr.toWord)) =
      some (0xCAFEF00D#32, 0x1004#32, 0x8008#32, 0x10#32, 0x97#32) := by decide
theorem test_K9_stm_base_first :
    ran (with3 svc 0x1010 0x11111111 0) 0xE8A00003 (fun t => (t.regs.r0, t.mem.word false 0x1010, t.mem.word false 0x1014)) =
      some (0x1018#32, 0x1010#32, 0x11111111#32) := by decide
theorem test_K21_ldm_user_bank :
    ran (with3 (poke (cpu 0b10010#5 false) [(0x1010, 0xA0001010), (0x1014, 0xA0001014)]) 0x1010 0 0) 0xE8D06000
      (fun t => (t.regs.r13, t.regs.r14, t.regs.r13Irq, t.usrLdm)) = some (0xA0001010#32, 0xA0001014#32, 0, true) := by decide
theorem test_W1_swp :
    ran (with3 (poke svc [(0x1000, 0x44332211)]) 0 0xAABBCCDD 0x1000) 0xE1020091 (fun t => (t.regs.r0, t.mem.word false 0x1000)) =
      some (0x44332211#32, 0xAABBCCDD#32) := by decide
theorem test_E1_swi :
    ran usr 0xEF000000 (fun t => (t.regs.r14Svc, t.spsr.svc.toWord, t.cpsr.toWord, t.pc)) =
      some (0x8004#32, 0x10#32, 0x93#32, 8#32) := by decide
theorem test_E9_no_coprocessor : ran svc 0xEE100F10 (fun t => (t.regs.r14Und, t.pc)) = some (0x8004#32, 4#32) := by decide
theorem test_T35_thumb_add_high :
    ran { thb with regs := { thb.regs with r0 := 1, r8 := 0xFFFFFFFF } } 0x4440 (fun t => (t.regs.r0, t.cpsr.z)) = some (0, false) := by decide
theorem test_U21_push :
    ran { thb with regs := { thb.regs with r0 := 0xCAFEF00D, r2 := 4, r13 := 0x1008, r14 := 0x8005 } } 0xB505
      (fun t => (t.regs.r13, t.mem.word false 0xFFC, t.mem.word false 0x1004)) = some (0xFFC#32, 0xCAFEF00D#32, 0x8005#32) := by decide
theorem test_U39_bl_high : ran thb 0xF7FF (fun t => (t.regs.r14, t.pc)) = some (0x7004#32, 0x8002#32) := by decide
theorem test_C2_channel_write :
    ran (with3 svc 0 0xAB 0) 0xEE011E10 (fun t => (t.dcc.dataWrite, t.dcc.w)) = some (0xAB#32, true) := by decide
theorem test_Q8_watchpoint_matches_a_word_write :
    (let w : Watch := { addrValue := 0x9000, addrMask := 0, dataValue := 0, dataMask := 0xFFFFFFFF, ctlValue := 0x10D, ctlMask := 0xF0,
                        chainOut := false }
     let x (z : Size) : BusAccess := svc.access 0x9000 z .write true false 0x12 false false
     (w.addrCtlMatch (x .word), w.addrCtlMatch (x .byte))) = (true, false) := by decide
theorem test_G22_fiq_first :
    seen (step { requested usr false false with pc := 0x8004#32 }) (fun t => (t.regs.r14Fiq, t.spsr.fiq.toWord, t.cpsr.toWord, t.pc)) =
      some (0x8008#32, 0x10#32, 0xD1#32, 0x1C#32) := by decide

/-! ## For every statement with hypotheses, states and operands that meet them -/

theorem witness_EncodeThenDecode : WellFormed (.stmdb .ne true false 14#4 0xFFFF#16) := by
  unfold WellFormed
  decide
theorem witness_DecodeThenEncode_arm : decodeArm (2^32 - 2^28 - 1) = .ok (.swi .al 0xFFFFFF#24) := by decide
theorem witness_DecodeThenEncode_thumb : decodeThumb (2^16 - 1) = .ok (.tBlLo 0x7FF#11) := by decide

/-- A state about to execute ADD R0, R1, R2. -/
def adding : State := { usr with mem := (poke usr [(0x8000, 0xE0810002)]).mem, fetchPriv := false }

theorem witness_StepRunsTheDecodedInstruction :
    AtBoundary adding ∧ adding.waiting = none ∧ adding.env.params.dbgen = false ∧ Fetchable adding ∧
      reads adding.cpsr.t (adding.mem.value adding.env.params.bigend adding.fetchSize adding.pc) (.addShi .al false 1#4 0#4 0#5 .lsl 2#4) =
        true := by decide
theorem witness_StepRunsTheDecodedInstruction_waiting :
    let s : State := { cop svc .present 2 with waiting := some (.cdp .al 0#4 0#4 0#4 1#4 0#3 0#4) }
    AtBoundary s ∧ s.waiting = some (.cdp .al 0#4 0#4 0#4 1#4 0#3 0#4) ∧ s.env.params.dbgen = false ∧
      seen (step s) (fun t => (t.pc, t.bus, t.env.coprocs.map CopPort.waits)) = some (0x8000#32, [], [[1]]) := by decide
theorem test_step_is_exec_of_the_decoded_instruction :
    seen (step (with3 adding 0 5 6)) id = seen (exec (.addShi .al false 1#4 0#4 0#5 .lsl 2#4) (fetched (with3 adding 0 5 6))) id ∧
      seen (step (with3 adding 0 5 6)) (fun t => (t.regs.r0, t.pc)) = some (11#32, 0x8004#32) := by decide
theorem witness_StepRunsUnderTheDebugLogic :
    let s := debugged adding
    AtInstruction s ∧ s.dbg.watchHit = false ∧ s.dbgrqi = false ∧ Fetchable s ∧
      (State.observeAll (fetched s).bus (fetched s)).1 = false ∧
      reads s.cpsr.t (s.mem.value s.env.params.bigend s.fetchSize s.pc) (.addShi .al false 1#4 0#4 0#5 .lsl 2#4) = true := by decide
theorem witness_StepKeepsTheInvariant :
    adding.mem.wf = true ∧ adding.pc &&& 3#32 = 0#32 ∧ adding.cpsr.t = false ∧ goesOn (step adding) = true := by decide
theorem witness_StepKeepsTheInvariant_event :
    goesOn (step { svc with script := [.reset 2 none] }) = true ∧ goesOn (step { svc with script := [.tck true false] }) = true := by decide
theorem witness_NoDebugStateWithDbgenLow :
    adding.env.params.dbgen = false ∧ adding.dbg.inDebug = false ∧ goesOn (step adding) = true := by decide
theorem witness_UserModeIsLeftOnlyByAnException_stays :
    adding.cpsr.m = 0b10000#5 ∧ adding.dbg.inDebug = false ∧ adding.script = [] ∧
      seen (step adding) (fun t => t.cpsr.m) = some 0b10000#5 := by decide
theorem witness_UserModeIsLeftOnlyByAnException_leaves :
    seen (step (poke usr [(0x8000, 0xEF000000)])) (fun t => t.cpsr.m) = some 0b10011#5 := by decide
theorem witness_UserModeCannotTouchPrivilegedState :
    usr.cpsr.m = 0b10000#5 ∧ usr.dbg.inDebug = false ∧
      seen (exec (.msrReg .al false 9#4 0#4) (with3 usr 0x900000D3 0 0)) (fun t => t.cpsr.m) = some 0b10000#5 := by decide
/-- nRESET resets the attached coprocessors (70_reset_and_hazards.md, rule R606 (h)). -/
theorem test_coprocessorReset :
    seen ((cop svc .present 3).resetEvent 2 none) (fun t => t.env.coprocs.map (fun p => (p.state, p.bank, p.waits))) =
      some [(7, [9], [])] := by decide

/-- CAPTURE-DR takes the identification code, bit 0 = 1 (61_debug.md, rule R571). -/
theorem test_idcode :
    let s : State := { svc with script := [.tck false false], tap := { Tap.reset with state := .captureDr } }
    seen (step { s with env := { s.env with params := { s.env.params with idcode := { version := 1, part := 2, manufacturer := 3 } } } })
      (fun t => t.tap.idShift) = some 0x10002007#32 := by decide

theorem witness_ResetState : goesOn (adding.resetEvent 2 none) = true := by decide
theorem witness_CanonicalMemoriesAreEqual :
    (adding.mem : Memory).wf = true ∧ ((adding.mem.write 0 1).write 0 0).wf = true ∧ adding.mem ≠ [] := by decide
theorem witness_ConditionalExecution :
    Instr.cond? (.b .ne 0#24) = some .ne ∧ conditionPassed { Psr.zero with z := true } .ne = false ∧ Room edge ∧
      Mode.ofBits edge.cpsr.m ≠ none := by decide
theorem witness_IllFormed_never :
    Instr.cond? (.swi .nv 0#24) = some .nv ∧ isThumb (.swi .nv 0#24) = false ∧ Mode.ofBits usr.cpsr.m ≠ none := by decide
theorem witness_IllFormed_operands :
    Instr.violation (.mul .al false 1#4 0#4 2#4 1#4) = some (.operands .multiplyOverlap) ∧
      copForm svc (.mul .al false 1#4 0#4 2#4 1#4) = none ∧ conditionPassed svc.cpsr .al = true ∧ Mode.ofBits svc.cpsr.m ≠ none := by decide
theorem witness_IllFormed_bits_state :
    let s : State := { thb with mem := thb.mem.store false .half 0x8000 0xB100 }
    AtInstruction s ∧ s.env.params.dbgen = false ∧ Fetchable s ∧ s.cpsr.t = true ∧
      (s.mem.value s.env.params.bigend s.fetchSize s.pc).toNat = 0xB100 := by decide
theorem witness_IllFormed_bits : ∀ i : Instr, encode i ≠ .thumb 0xB100 := by
  intro i h
  cases i <;> simp only [encode, pack, Code.thumb.injEq, reduceCtorEq] at h <;> bv_omega
/-- The hypotheses of the hazard at a state: the instruction reads a banked register right after a User-bank LDM. -/
abbrev Hazardous (i : Instr) (s : State) : Prop :=
  s.cpsr.t = isThumb i ∧ i.violation = none ∧ conditionPassed s.cpsr (i.cond?.getD .al) = true ∧ Mode.ofBits s.cpsr.m ≠ none ∧
    s.usrLdm = true ∧ s.cpsr.m ≠ 0b10000#5 ∧ s.cpsr.m ≠ 0b11111#5 ∧ ∃ r ∈ readsOf s i, 8 ≤ r.toNat ∧ r.toNat ≤ 14

theorem witness_UserBankHazardIsRefused :
    ∀ i ∈ [(Operand2.shr 8#4 .lsl 1#4).instr .add .al true 15#4 0#4, .strImm .al true false 0#4 14#4 0#12,
        .stmia .al true false 0#4 0x0100#16, .mla .al false 0#4 8#4 1#4 2#4, .bx .al 14#4, .msrReg .al false 8#4 12#4],
      Hazardous i (afterLdm svc) ∧ copForm (afterLdm svc) i = none := by decide
theorem witness_UserBankHazardIsRefused_thumb :
    ∀ i ∈ [Instr.tPush true 0#8, .tBlLo 0#11, .tAddSp 0#3 0#8],
      Hazardous i (afterLdm (cpu 0b10011#5 true)) ∧ copForm (afterLdm (cpu 0b10011#5 true)) i = none := by decide
theorem witness_UserBankHazardIsRefused_coprocessor :
    let i : Instr := .mcr .al 0#3 0#4 14#4 1#4 0#3 0#4
    let s := cop (afterLdm svc) .present 0
    Hazardous i s ∧ copForm s i = some (registerOffer .mcr 1#4 0#3 0#4 0#3 0#4 true) ∧
      Accepts s (registerOffer .mcr 1#4 0#3 0#4 0#3 0#4 true) { number := 1#4, state := 0, bank := [5, 6], waits := [0], rules := [copRule .present], atReset := unreset }
        (copRule .present) := by decide
theorem test_stm_user_bank_of_banked_registers_is_no_hazard :
    seen (exec (.stmia .al true false 0#4 0x4000#16) (afterLdm (with3 svc 0x1000 0 0))) (fun t => t.usrLdm) = some false := by decide

theorem witness_ShiftByImmediate : (0 < 32) ∧ (31 < 32) := by decide
theorem witness_DataProcessingResult :
    (Runs ((Operand2.imm 15#4 255#8).instr .add .al true 15#4 0#4) [15#4] svc ∧ Room svc) ∧
    (Runs ((Operand2.shi 0#5 .ror 15#4).instr .mov .al true 0#4 14#4) [0#4, 15#4] svc ∧ Room svc) ∧
    (Runs ((Operand2.shr 0#4 .lsl 15#4).instr .cmp .al false 15#4 0#4) [15#4, 0#4, 15#4] edge ∧ Room edge) := by decide
theorem witness_DataProcessingToPc :
    Runs ((Operand2.shi 0#5 .lsl 14#4).instr .mov .al false 0#4 15#4) [0#4, 14#4] svc ∧
    (Runs ((Operand2.imm 0#4 4#8).instr .sub .al true 14#4 15#4) [14#4] svc ∧ svc.spsr.get svc.mode ≠ none) ∧
    (Runs ((Operand2.imm 0#4 4#8).instr .sub .al true 14#4 15#4) [14#4] usr ∧ usr.spsr.get usr.mode = none) := by decide
theorem witness_ThumbAluResult :
    (thumbAluForm thb (.tLsrReg 0#3 7#3) ≠ none ∧ Runs (.tLsrReg 0#3 7#3) [] thb ∧ Room thb) ∧
    (thumbAluForm thb (.tCmpHi 15#4 8#4) ≠ none ∧ Runs (.tCmpHi 15#4 8#4) [15#4, 8#4] thb ∧ Room thb) := by decide
theorem witness_ThumbRegisterResult :
    Runs (.tAddHi 8#4 15#4) [8#4, 15#4] thb ∧ Runs (.tAddHi 15#4 0#4) [15#4, 0#4] thb ∧ Runs (.tMovHi 0#4 15#4) [15#4] thb ∧
    Runs (.tMovHi 15#4 14#4) [14#4] thb ∧ Runs (.tAddPc 7#3 255#8) [] thb ∧ Runs (.tAddSp 0#3 0#8) [13#4] thb ∧
    Runs (.tIncSp 127#7) [13#4] thb ∧ Runs (.tDecSp 127#7) [13#4] thb ∧ Room thb := by decide
theorem witness_MultiplyResult :
    Runs (.mul .al true 0#4 0#4 1#4 14#4) [14#4, 1#4] svc ∧ Runs (.mla .al false 0#4 0#4 0#4 1#4) [1#4, 0#4, 0#4] svc ∧
    Room svc ∧ Runs (.tMul 0#3 7#3) [] thb ∧ Room thb := by decide
theorem witness_LongMultiplyResult :
    Runs (.umull .al true 1#4 0#4 3#4 2#4) [2#4, 3#4] svc ∧ Runs (.umlal .al false 1#4 0#4 3#4 2#4) [2#4, 3#4, 1#4, 0#4] svc ∧
    Runs (.smull .al true 1#4 0#4 3#4 2#4) [2#4, 3#4] svc ∧ Runs (.smlal .al true 1#4 0#4 3#4 2#4) [2#4, 3#4, 1#4, 0#4] svc ∧
    Room svc := by decide
theorem witness_MrsResult :
    (Runs (.mrs .al false 14#4) [] usr ∧ Room usr) ∧ (svc.spsr.get svc.mode = some .zero ∧ Runs (.mrs .al true 0#4) [] svc ∧ Room svc) ∧
    (usr.spsr.get usr.mode = none ∧ Runs (.mrs .al true 0#4) [] usr) := by decide
theorem witness_MsrResult_cpsr :
    let i : Instr := .msrImm .al false 15#4 0#4 0xD0#8
    msrForm svc i = some (false, 15#4, [], 0xD0#32) ∧ Runs i [] svc ∧ Room svc ∧
      KeepsReserved (cpsrMask svc 15#4) 0xD0#32 svc.psrRead.cpsr ∧ (0xD0#32).getLsbD 5 = svc.cpsr.t := by decide
theorem witness_MsrResult_user :
    let s := with3 (hasRead usr) 0xFF0000F3 0 0
    let i : Instr := .msrReg .al false 9#4 0#4
    msrForm s i = some (false, 9#4, [0#4], 0xFF0000F3#32) ∧ Runs i [0#4] s ∧ cpsrMask s 9#4 = 8#4 ∧
      KeepsReserved (cpsrMask s 9#4) 0xFF0000F3#32 s.psrRead.cpsr := by decide
theorem witness_MsrResult_spsr :
    let s := with3 (hasRead svc) 0xFF0000FF 0 0
    let i : Instr := .msrReg .al true 9#4 0#4
    msrForm s i = some (true, 9#4, [0#4], 0xFF0000FF#32) ∧ Runs i [0#4] s ∧ Room s ∧ s.spsr.get s.mode = some .zero ∧
      KeepsReserved 9#4 0xFF0000FF#32 (s.psrRead.spsr s.mode) := by decide
theorem witness_MsrStops_spsr :
    let s := hasRead svc
    let i : Instr := .msrImm .al true 2#4 0#4 1#8
    (msrForm s i = some (true, 2#4, [], 1#32) ∧ Runs i [] s ∧ s.spsr.get s.mode ≠ none ∧ ¬ KeepsReserved 2#4 1#32 (s.psrRead.spsr s.mode)) ∧
      (msrForm usr i = some (true, 2#4, [], 1#32) ∧ Runs i [] usr ∧ usr.spsr.get usr.mode = none) := by decide
theorem witness_MsrStops_state :
    let i : Instr := .msrImm .al false 1#4 0#4 0x3F#8
    msrForm svc i = some (false, 1#4, [], 0x3F#32) ∧ Runs i [] svc ∧ (cpsrMask svc 1#4).getLsbD 0 = true ∧
      (0x3F#32).getLsbD 5 ≠ svc.cpsr.t := by decide
theorem witness_MsrStops_reserved :
    let i : Instr := .msrImm .al false 8#4 4#4 1#8
    msrForm usr i = some (false, 8#4, [], 0x01000000#32) ∧ Runs i [] usr ∧ (cpsrMask usr 8#4).getLsbD 0 = false ∧
      ¬ KeepsReserved (cpsrMask usr 8#4) 0x01000000#32 usr.cpsr.reserved := by decide
theorem witness_BranchResult :
    Runs (.b .al 0x800000#24) [] svc ∧ Runs (.bl .al 0x7FFFFF#24) [] usr ∧ Runs (.tB 0x400#11) [] thb ∧ Runs (.tBlHi 0x7FF#11) [] thb ∧
    Room thb ∧ Runs (.tBlLo 0x7FF#11) [14#4] thb ∧ Runs (.bx .al 15#4) [15#4] svc ∧ Runs (.tBx 15#4) [15#4] thb := by decide
theorem witness_ThumbConditionalBranchResult :
    thumbCond (.tBne 0x80#8) = some (.ne, 0x80#8) ∧ conditionPassed thb.cpsr .ne = true ∧
    thumbCond (.tBeq 0x7F#8) = some (.eq, 0x7F#8) ∧ conditionPassed thb.cpsr .eq = false ∧ Room thb ∧ thb.cpsr.t = true := by decide

/-- The form of a load at the witness state: its hypotheses. -/
abbrev Loads (s : State) (i : Instr) (f : Single LoadKind) : Prop :=
  Runs i f.reads s ∧ f.kind.size.aligned f.tr.addr = true ∧ Readable s f.tr.addr f.kind.size (s.isPriv && !f.user)

/-- The form of a store at the witness state: its hypotheses. -/
abbrev Stores (s : State) (i : Instr) (f : Single Size) : Prop :=
  Runs i f.reads s ∧ f.kind.aligned f.tr.addr = true ∧ Writable s f.tr.addr f.kind (s.isPriv && !f.user)

/-- Whether a load table entry exists and meets a condition. -/
def loadMeets (s : State) (i : Instr) (p : Single LoadKind → Bool) : Bool := (loadForm s i).any p

/-- Whether a store table entry exists and meets a condition. -/
def storeMeets (s : State) (i : Instr) (p : Single Size → Bool) : Bool := (storeForm s i).any p

theorem witness_LoadResult :
    (loadMeets (with3 svc 0 0xFFFFFFFC 0) (.ldrImm .al true false 1#4 0#4 0#12)
      (fun f => decide (Loads (with3 svc 0 0xFFFFFFFC 0) (.ldrImm .al true false 1#4 0#4 0#12) f ∧ f.rd ≠ 15#4)) &&
     loadMeets (with3 usr 0 0x1001 0) (.ldrbtImm .al false 1#4 0#4 0xFFF#12)
      (fun f => decide (Loads (with3 usr 0 0x1001 0) (.ldrbtImm .al false 1#4 0#4 0xFFF#12) f ∧ f.rd ≠ 15#4)) &&
     loadMeets thb (.tLdrshReg 0#3 1#3 2#3) (fun f => decide (Loads thb (.tLdrshReg 0#3 1#3 2#3) f ∧ f.rd ≠ 15#4)) &&
     decide (Room svc) && decide (Room usr) && decide (Room thb)) = true := by decide
theorem witness_LoadToPcResult :
    loadMeets (with3 svc 0 0x1000 0) (.ldrRegPost .al true 1#4 15#4 0#5 .ror 0#4)
      (fun f => decide (Loads (with3 svc 0 0x1000 0) (.ldrRegPost .al true 1#4 15#4 0#5 .ror 0#4) f ∧ f.rd = 15#4)) = true := by decide
theorem witness_StoreResult :
    (storeMeets (with3 svc 0 0x800C 0) (.strImm .al true false 1#4 15#4 0#12)
      (fun f => decide (Stores (with3 svc 0 0x800C 0) (.strImm .al true false 1#4 15#4 0#12) f)) &&
     storeMeets thb (.tStrhReg 0#3 1#3 2#3) (fun f => decide (Stores thb (.tStrhReg 0#3 1#3 2#3) f)) &&
     svc.mem.wf && decide (Room svc)) = true := by decide
theorem witness_TransferDataAbort_load :
    (let s := aborting (with3 svc 0 0x1000 0) 0x1000 0x1000 .read
     loadMeets s (.ldrImm .al true true 1#4 0#4 0#12) (fun f => decide (Runs (.ldrImm .al true true 1#4 0#4 0#12) f.reads s ∧ s.dbg.feed = none ∧
       f.kind.size.aligned f.tr.addr = true ∧ s.env.aborting f.tr.addr.toNat f.kind.size .read (s.isPriv && !f.user) = true))) = true := by decide
theorem witness_TransferDataAbort_store :
    (let s := aborting (with3 svc 0 0x1000 0) 0 0x1000 .write
     storeMeets s (.strbImmPost .al true 1#4 0#4 0#12) (fun f => decide (Runs (.strbImmPost .al true 1#4 0#4 0#12) f.reads s ∧ s.dbg.feed = none ∧
       f.kind.aligned f.tr.addr = true ∧ s.env.aborting f.tr.addr.toNat f.kind .write (s.isPriv && !f.user) = true))) = true := by decide
theorem witness_TransferDataAbort_swap :
    let s := aborting (with3 svc 0 0 0x1000) 0x1000 0x1FFF .read
    let u := aborting (with3 svc 0 0 0x1000) 0x1000 0x1FFF .write
    (Runs (.swp .al 2#4 0#4 1#4) [2#4, 1#4] s ∧ s.dbg.feed = none ∧ Size.word.aligned (s.reg 2#4) = true ∧
      s.env.aborting (s.reg 2#4).toNat .word .read s.isPriv = true) ∧
    (Runs (.swp .al 2#4 0#4 1#4) [2#4, 1#4] u ∧ Readable u (u.reg 2#4) .word u.isPriv ∧
      u.env.aborting (u.reg 2#4).toNat .word .write u.isPriv = true) := by decide

/-- The coprocessor that answers at a state of `cop` with no wait. -/
def port (a : CopResponse) : CopPort := { number := 1#4, state := 0, bank := [5, 6], waits := [0], rules := [copRule a], atReset := unreset }

theorem witness_TransferDataAbort_coprocessor :
    let s := aborting (cop (with3 svc 0 0x1000 0) .present 0) 0x1008 0x1008 .write
    let t := transferOf true true true (s.reg 1#4) 4
    copForm s (.stc .al true true false true 1#4 0#4 1#4 1#8) = some (memoryOffer .stc 1#4 0#4 false true) ∧
      Accepts s (memoryOffer .stc 1#4 0#4 false true) (port .present) (copRule .present) ∧
      Runs (.stc .al true true false true 1#4 0#4 1#4 1#8) [1#4] s ∧ s.dbg.feed = none ∧ s.mem.wf = true ∧ Size.word.aligned t.addr = true ∧
      (∃ k < 2, s.env.aborting (t.addr + BitVec.ofNat 32 (4 * k)).toNat .word .write s.isPriv = true) ∧
      (∀ k < 2, s.env.aborting (t.addr + BitVec.ofNat 32 (4 * k)).toNat .word .write s.isPriv = true ∨
        Writable s (t.addr + BitVec.ofNat 32 (4 * k)) .word s.isPriv) := by decide
theorem witness_TransferDataAbort_ldc :
    let s := aborting (cop (with3 svc 0 0x1000 0) .present 0) 0x1008 0x1008 .read
    Accepts s (memoryOffer .ldc 1#4 0#4 false true) (port .present) (copRule .present) ∧
      Runs (.ldc .al true true false true 1#4 0#4 1#4 1#8) [1#4] s ∧ s.dbg.feed = none ∧
      s.env.aborting ((transferOf true true true (s.reg 1#4) 4).addr + 4).toNat .word .read s.isPriv = true ∧
      seen (exec (.ldc .al true true false true 1#4 0#4 1#4 1#8) s) (fun t => (t.pc, t.regs.r1, t.cop.map CopRequest.data, t.env.coprocs.map CopPort.bank)) =
        some (0x10#32, 0x1004#32, [[0]], [[0, 6]]) := by decide
theorem witness_MisalignedTransfers_load :
    (let s := with3 svc 0 0x1003 0
     loadMeets s (.ldrImm .al true false 1#4 0#4 0#12) (fun f => decide (Runs (.ldrImm .al true false 1#4 0#4 0#12) f.reads s ∧
       f.kind.size.aligned f.tr.addr = false ∧ s.env.params.misaligned = .refuse))) = true := by decide
theorem witness_MisalignedTransfers_store :
    (let s := rotating (with3 svc 0 0x1001 0)
     storeMeets s (.strhImm .al true true false 1#4 0#4 0#8) (fun f => decide (Runs (.strhImm .al true true false 1#4 0#4 0#8) f.reads s ∧
       s.dbg.feed = none ∧ f.kind.aligned f.tr.addr = false ∧ f.kind = .half))) = true := by decide
theorem witness_MisalignedTransfers_rotated :
    (let s := rotating (with3 svc 0 0x1003 0)
     loadMeets s (.ldrImm .al true false 1#4 0#4 0#12) (fun f => decide (Runs (.ldrImm .al true false 1#4 0#4 0#12) f.reads s ∧
       f.rd ≠ 15#4 ∧ f.kind = .word ∧ s.env.params.misaligned = .armv4t ∧
       Readable s (f.tr.addr &&& 0xFFFFFFFC#32) .word (s.isPriv && !f.user))) &&
     storeMeets s (.strImm .al true false 1#4 0#4 0#12) (fun f => decide (Runs (.strImm .al true false 1#4 0#4 0#12) f.reads s ∧
       Room s ∧ s.mem.wf = true ∧ f.kind = .word ∧ Writable s (f.tr.addr &&& 0xFFFFFFFC#32) .word (s.isPriv && !f.user)))) = true := by decide
theorem witness_MisalignedTransfers_swap :
    let s := with3 svc 0 0 0x1001
    (Runs (.swp .al 2#4 0#4 1#4) [2#4, 1#4] s ∧ Size.word.aligned (s.reg 2#4) = false ∧ s.env.params.misaligned = .refuse) ∧
      (Runs (.swp .al 2#4 0#4 1#4) [2#4, 1#4] (rotating s) ∧ Room s ∧ Readable (rotating s) 0x1000#32 .word true ∧
        Writable (rotating s) 0x1000#32 .word true) := by decide
theorem witness_MisalignedTransfers_coprocessor :
    let s := cop (with3 svc 0 0x1001 0) .present 0
    Accepts s (memoryOffer .ldc 1#4 0#4 false true) (port .present) (copRule .present) ∧
      copForm s (.ldc .al true true false false 1#4 0#4 1#4 0#8) = some (memoryOffer .ldc 1#4 0#4 false true) ∧
      Runs (.ldc .al true true false false 1#4 0#4 1#4 0#8) [1#4] s ∧ s.dbg.feed = none ∧ s.env.params.misaligned = .refuse ∧
      Size.word.aligned (transferOf true true false (s.reg 1#4) 0).addr = false := by decide
theorem witness_SwapResult :
    let s := with3 svc 0 0 0x1001
    Runs (.swpb .al 2#4 0#4 1#4) [2#4, 1#4] s ∧ Room s ∧ s.mem.wf = true ∧ Size.byte.aligned (s.reg 2#4) = true ∧
      Readable s (s.reg 2#4) .byte s.isPriv ∧ Writable s (s.reg 2#4) .byte s.isPriv := by decide

/-- Whether a block table entry exists and meets a condition. -/
def blockMeets (o : Option Block) (p : Block → Bool) : Bool := o.any p

theorem witness_BlockAddresses : inList 0x8001#16 0#4 = true ∧ inList 0x8001#16 15#4 = true := by decide
theorem witness_LoadMultipleResult :
    (let s := with3 svc 0x1010 0 0
     let i : Instr := .ldmdb .al true false 0#4 0x7FFF#16
     blockMeets (loadBlock i) (fun f => decide (Runs i f.reads s ∧ Room s ∧ inList f.list 15#4 = false ∧
       Size.word.aligned (f.start s) = true ∧ ∀ k < count f.list, Readable s (f.addr s k) .word s.isPriv))) = true := by decide
theorem witness_LoadMultipleToPcResult :
    (let s := with3 svc 0x1010 0 0
     let i : Instr := .ldmia .al true true 0#4 0x8000#16
     decide (s.spsr.get s.mode = some .zero) &&
     blockMeets (loadBlock i) (fun f => decide (Runs i f.reads s ∧ f.sb = true ∧ inList f.list 15#4 = true ∧
       Size.word.aligned (f.start s) = true ∧ ∀ k < count f.list, Readable s (f.addr s k) .word s.isPriv))) = true := by decide
theorem witness_LoadMultipleToPcResult_pop :
    (let i : Instr := .tPop true 0#8
     blockMeets (loadBlock i) (fun f => decide (Runs i f.reads thb ∧ f.sb = false ∧ inList f.list 15#4 = true ∧
       Size.word.aligned (f.start thb) = true ∧ ∀ k < count f.list, Readable thb (f.addr thb k) .word thb.isPriv))) = true := by decide
theorem witness_LoadMultipleToPcResult_refused :
    (let s := with3 usr 0x1010 0 0
     let i : Instr := .ldmia .al true false 0#4 0x8002#16
     decide (s.spsr.get s.mode = none) &&
     blockMeets (loadBlock i) (fun f => decide (Runs i f.reads s ∧ f.sb = true ∧ inList f.list 15#4 = true))) = true := by decide
theorem witness_StoreMultipleResult :
    (let s := with3 svc 0x1010 0 0
     let i : Instr := .stmda .al false true 0#4 0xFFFF#16
     blockMeets (storeBlock s.mode i) (fun f => decide (Runs i f.reads s ∧ Room s ∧ s.mem.wf = true ∧
       Size.word.aligned (f.start s) = true ∧ ∀ k < count f.list, Writable s (f.addr s k) .word s.isPriv))) = true := by decide
theorem witness_BlockTransferDataAbort_load :
    (let s := aborting (with3 svc 0x1010 0 0) 0x1018 0x1018 .read
     let i : Instr := .ldmia .al false true 0#4 0x000E#16
     blockMeets (loadBlock i) (fun f => decide (Runs i f.reads s ∧ s.dbg.feed = none ∧ f.sb = false ∧
       Size.word.aligned (f.start s) = true ∧ 2 < count f.list ∧ s.env.aborting (f.addr s 2).toNat .word .read s.isPriv = true) &&
       decide (∀ k < (2 : Nat), Readable s (f.addr s k) .word s.isPriv))) = true := by decide
theorem witness_BlockTransferDataAbort_store :
    (let s := aborting (with3 svc 0x1010 0 0) 0x1014 0x1014 .write
     let i : Instr := .stmia .al false true 0#4 0x000E#16
     blockMeets (storeBlock s.mode i) (fun f => decide (Runs i f.reads s ∧ s.dbg.feed = none ∧ s.mem.wf = true ∧
       Size.word.aligned (f.start s) = true ∧ (∃ k < count f.list, s.env.aborting (f.addr s k).toNat .word .write s.isPriv = true) ∧
       ∀ k < count f.list, s.env.aborting (f.addr s k).toNat .word .write s.isPriv = true ∨
         Writable s (f.addr s k) .word s.isPriv))) = true := by decide
theorem witness_MisalignedTransfers_block :
    (let s := with3 svc 0x1012 0 0
     let u := rotating s
     let i : Instr := .ldmia .al false true 0#4 0x000E#16
     let j : Instr := .stmdb .al true false 0#4 0xFFFF#16
     blockMeets (loadBlock i) (fun f => decide (Runs i f.reads s ∧ Size.word.aligned (f.start s) = false ∧ s.env.params.misaligned = .refuse ∧
       Runs i f.reads u ∧ Room u ∧ inList f.list 15#4 = false ∧
       ∀ k < count f.list, Readable u (f.addr u k &&& 0xFFFFFFFC#32) .word u.isPriv)) &&
     blockMeets (storeBlock u.mode j) (fun f => decide (Runs j f.reads u ∧ Room u ∧ u.mem.wf = true ∧ Size.word.aligned (f.start u) = false ∧
       ∀ k < count f.list, Writable u (f.addr u k &&& 0xFFFFFFFC#32) .word u.isPriv))) = true := by decide
theorem witness_MisalignedTransfers_load_pc :
    (let s := rotating (with3 svc 0x1012 0 0)
     let i : Instr := .ldmia .al false false 0#4 0x8000#16
     blockMeets (loadBlock i) (fun f => decide (Runs i f.reads s ∧ s.dbg.feed = none ∧ Size.word.aligned (f.start s) = false ∧
       inList f.list 15#4 = true))) = true := by decide

theorem witness_CodeWindow :
    (let s := with3 svc 0 0x800B 0x8004
     let u := with3 svc 0x7FF8 0 0
     let i : Instr := .strbImm .al true false 1#4 0#4 0#12
     let j : Instr := .stmia .al false false 0#4 0x001F#16
     storeMeets s i (fun f => decide (Runs i f.reads s ∧ s.dbg.feed = none ∧ s.dbg.inDebug = false ∧ f.kind.aligned f.tr.addr = true ∧
       s.env.aborting f.tr.addr.toNat f.kind .write (s.isPriv && !f.user) = false ∧
       ∃ k < f.kind.bytes, (f.tr.addr + BitVec.ofNat 32 k - (s.pc + s.len)).toNat < 2 * s.len.toNat)) &&
     blockMeets (storeBlock u.mode j) (fun f => decide (Runs j f.reads u ∧ Size.word.aligned (f.start u) = true) && decide (
       ∃ n < (5 : Nat), u.env.aborting (f.addr u n).toNat .word .write u.isPriv = false ∧
         ∃ k < (4 : Nat), (f.addr u n + BitVec.ofNat 32 k - (u.pc + u.len)).toNat < 2 * u.len.toNat)) &&
     decide (Runs (.swp .al 2#4 0#4 1#4) [2#4, 1#4] s ∧ Size.word.aligned (s.reg 2#4) = true ∧
       s.env.aborting (s.reg 2#4).toNat .word .read s.isPriv = false ∧ s.env.aborting (s.reg 2#4).toNat .word .write s.isPriv = false) && decide (
       ∃ k < (4 : Nat), (s.reg 2#4 + BitVec.ofNat 32 k - (s.pc + s.len)).toNat < 2 * s.len.toNat)) = true := by decide

/-- The last instruction of the address space in ARM and in Thumb state. -/
def top (s : State) : State := { s with pc := 0 - s.len }

theorem witness_TopOfMemory :
    (let s := with3 (top svc) 0 0x1000 0
     decide ((top thb).dbg.inDebug = false ∧ 2^32 ≤ s.pc.toNat + s.len.toNat ∧ 2^32 ≤ (top thb).pc.toNat + (top thb).len.toNat ∧
       Instr.cond? (.b .eq 0#24) = some .eq ∧ conditionPassed s.cpsr .eq = false ∧
       Runs ((Operand2.imm 0#4 0#8).instr .mov .al false 0#4 1#4) [0#4] s ∧
       thumbAluForm (top thb) (.tCmn 0#3 1#3) ≠ none ∧ Runs (.tCmn 0#3 1#3) [] (top thb)) &&
     loadMeets s (.ldrImm .al true false 1#4 0#4 0#12) (fun f => decide (Loads s (.ldrImm .al true false 1#4 0#4 0#12) f ∧ f.rd ≠ 15#4)) &&
     storeMeets s (.strImm .al true false 1#4 0#4 0#12) (fun f => decide (Stores s (.strImm .al true false 1#4 0#4 0#12) f))) = true := by decide

theorem witness_CoprocessorAbsentOrBusy :
    (let i : Instr := .stc .al true true false true 15#4 0#4 1#4 0#8
     copForm svc i = some (memoryOffer .stc 1#4 0#4 false true) ∧ Offered i svc ∧ svc.env.responder (memoryOffer .stc 1#4 0#4 false true) = none) ∧
    (let i : Instr := .mrc .al 0#3 0#4 0#4 1#4 0#3 0#4
     let o := registerOffer .mrc 1#4 0#3 0#4 0#3 0#4 true
     let p : CopPort := { port .present with waits := [3] }
     copForm svc i = some o ∧ Offered i (cop svc .present 3) ∧ (cop svc .present 3).env.responder o = some p ∧ p.answer o = .busy ∧
       (cop svc .invalid 0).env.responder o = some (port .invalid) ∧ (port .invalid).answer o = .invalid) := by decide
theorem witness_CoprocessorRegisterTransferResult :
    let s := cop svc .present 0
    Room s ∧ (Runs (.cdp .al 0#4 0#4 0#4 1#4 7#3 0#4) [] s ∧ copForm s (.cdp .al 0#4 0#4 0#4 1#4 7#3 0#4) =
        some ⟨.cdp, 1#4, 0#4, 7#3, 0#4, 0#4, 0#4, false, true⟩ ∧
        Accepts s ⟨.cdp, 1#4, 0#4, 7#3, 0#4, 0#4, 0#4, false, true⟩ (port .present) (copRule .present)) ∧
      (Runs (.mcr .al 7#3 0#4 14#4 1#4 0#3 0#4) [14#4] s ∧
        Accepts s (registerOffer .mcr 1#4 7#3 0#4 0#3 0#4 true) (port .present) (copRule .present)) ∧
      (Runs (.mrc .al 7#3 0#4 15#4 1#4 0#3 0#4) [] s ∧
        Accepts s (registerOffer .mrc 1#4 7#3 0#4 0#3 0#4 true) (port .present) (copRule .present)) := by decide
theorem test_coprocessor_keeps_the_word_of_mcr :
    seen (exec (.mcr .al 7#3 0#4 2#4 1#4 0#3 0#4) (with3 (cop svc .present 0) 0 0 9)) (fun t => t.env.coprocs.map CopPort.bank) =
      some [[9#32, 6#32]] := by decide
theorem witness_CoprocessorMemoryTransferResult :
    let s := cop (with3 svc 0 0x1000 0) .present 0
    let t := transferOf true true true (s.reg 1#4) (4 * (255#8).setWidth 32)
    Room s ∧ s.mem.wf = true ∧ Size.word.aligned t.addr = true ∧
      Accepts s (memoryOffer .ldc 1#4 0#4 false true) (port .present) (copRule .present) ∧
      Accepts s (memoryOffer .stc 1#4 0#4 true true) (port .present) (copRule .present) ∧
      Runs (.ldc .al true true false true 1#4 0#4 1#4 255#8) [1#4] s ∧ Runs (.stc .al true true true true 1#4 0#4 1#4 255#8) [1#4] s ∧
      ∀ k < 2, Readable s (t.addr + BitVec.ofNat 32 (4 * k)) .word true ∧ Writable s (t.addr + BitVec.ofNat 32 (4 * k)) .word true := by decide
theorem witness_CommunicationsChannelResult :
    Room usr ∧ Runs (.mrc .al 0#3 0#4 0#4 14#4 0#3 0#4) [] usr ∧ Runs (.mrc .al 0#3 1#4 15#4 14#4 0#3 0#4) [] usr ∧
      Runs (.mcr .al 0#3 1#4 14#4 14#4 0#3 0#4) [14#4] usr := by decide
theorem witness_OtherCp14InstructionsAreRefused_mrc :
    copForm svc (.mrc .al 0#3 2#4 0#4 14#4 0#3 0#4) = some (registerOffer .mrc 14#4 0#3 2#4 0#3 0#4 true) ∧ Offered (.mrc .al 0#3 2#4 0#4 14#4 0#3 0#4) svc ∧
      ∀ cond crn rd, Instr.mrc .al 0#3 2#4 0#4 14#4 0#3 0#4 = .mrc cond 0#3 crn rd 14#4 0#3 0#4 → 2 ≤ crn.toNat := by
  refine ⟨by decide, by decide, fun cond crn rd h => ?_⟩
  cases h
  decide
theorem witness_OtherCp14InstructionsAreRefused_mcr :
    copForm svc (.mcr .al 0#3 0#4 0#4 14#4 0#3 0#4) = some (registerOffer .mcr 14#4 0#3 0#4 0#3 0#4 true) ∧ Offered (.mcr .al 0#3 0#4 0#4 14#4 0#3 0#4) svc ∧
      ∀ cond crn rd, Instr.mcr .al 0#3 0#4 0#4 14#4 0#3 0#4 = .mcr cond 0#3 crn rd 14#4 0#3 0#4 → crn ≠ 1#4 := by
  refine ⟨by decide, by decide, fun cond crn rd h => ?_⟩
  cases h
  decide

theorem witness_TrapInstructionsTakeTheirExceptions :
    Runs (.swi .al 0xFFFFFF#24) [] usr ∧ Runs (.tSwi 0#8) [] thb ∧ Runs (.undefined .al 0#20 0#4) [] edge ∧ Runs (.tUndefined 255#8) [] thb := by
  decide
theorem witness_ExceptionReturn : State.pcAligned { thb with pc := 0x8002#32 } ∧ thb.dbg.inDebug = false := by
  unfold State.pcAligned
  decide
theorem witness_InterruptsAtTheBoundary :
    usr.script = [] ∧ usr.dbg.inDebug = false ∧ Mode.ofBits usr.cpsr.m ≠ none ∧ usr.ifen = true ∧
      ((requested usr false true).env.pins.nFiq = false ∧ usr.cpsr.f = false) ∧
      ((requested usr true false).env.pins.nIrq = false ∧ usr.cpsr.i = false) := by decide
theorem witness_PrefetchAbort :
    let s := aborting usr 0x8000 0x8000 .fetch
    AtInstruction s ∧ s.env.params.dbgen = false ∧ s.env.params.pabtCondFromBus = false ∧
      s.env.aborting s.pc.toNat s.fetchSize .fetch s.fetchPriv = true := by decide
theorem witness_StoppedCore :
    svc.script = [] ∧ Mode.ofBits (cpu 0#5 false).cpsr.m = none ∧ ({ svc.dbg with inDebug := true } : Dbg).inDebug = true := by decide

/-- Watchpoint 0 as an ARM breakpoint at 0x8000 (61_debug.md, rule R558). -/
def breakpointed : State :=
  let s := debugged adding
  { s with ice := { s.ice with w0 :=
      { addrValue := 0x8000, addrMask := 3, dataValue := 0, dataMask := 0xFFFFFFFF, ctlValue := 0x100, ctlMask := 0xF7, chainOut := false } } }

theorem witness_BreakpointEntersDebugState :
    AtInstruction breakpointed ∧ breakpointed.dbg.watchHit = false ∧ breakpointed.dbgrqi = false ∧ Fetchable breakpointed ∧
      (State.observeAll (fetched breakpointed).bus (fetched breakpointed)).1 = true := by decide

/-- A cycle that unit 0 matches with ENABLE set or clear puts RANGEOUT0 HIGH (61_debug.md, rule R557). -/
theorem witness_WatchpointComparison :
    let s : State := { breakpointed with ice := { breakpointed.ice with w0 := { breakpointed.ice.w0 with ctlValue := 0 } } }
    s.env.params.dbgen = true ∧ (State.observeAll (fetched s).bus (fetched s)).2.ranges.map RangeOut.unit0 = [true] ∧
      (State.observeAll (fetched breakpointed).bus (fetched breakpointed)).2.ranges.map RangeOut.unit0 = [true] := by decide

/-- Scan chains 0 and 3 between TDI and TDO (61_debug.md, rules R572 to R574): A[0] leaves scan chain 0 first and TDI enters at
D[0], cell 65 captures nM[2]; the external chain shifts; EXTEST on scan chain 1 does not clock the core. -/
theorem test_scanChains :
    let s (q : TapState) (ir n : BitVec 4) : State :=
      { svc with script := [.tck false true], tap := { Tap.reset with state := q, ir := ir, select := n, chain0 := 1#105 <<< 104 } }
    seen (step (s .shiftDr 0b1100#4 0#4)) (fun t => (t.tap.tdo, t.tap.chain0)) = some (true, 1#105) ∧
      (s .captureDr 0b1100#4 0#4).chain0Cell 65 = true ∧
      seen (step (s .shiftDr 0b1100#4 3#4)) (fun t => t.tap.state) = some .shiftDr ∧
      seen (step (s .updateDr 0b0000#4 1#4)) (fun t => (t.tap.state, t.dbg.pipe)) = some (.runTestIdle, []) := by decide

/-- UPDATE-IR with 0111 puts HIGHZ HIGH, with 1001 it does not (61_debug.md, rule R572). -/
theorem test_highz :
    let s (v : BitVec 4) : State := { svc with script := [.tck true false], tap := { Tap.reset with state := .exit1Ir, irShift := v } }
    seen (step (s 0b0111#4)) (fun t => (t.outputs.highz, t.outputs.floating)) = some (true, true) ∧
      seen (step (s 0b1001#4)) (fun t => (t.outputs.highz, t.outputs.floating)) = some (false, true) := by decide

/-- nTDOEN is LOW in a TCK cycle in SHIFT-IR and HIGH in one in CAPTURE-IR; 0b0001 is captured, its bit 0 leaves on TDO (61_debug.md,
rules R570 and R572). -/
theorem test_ntdoen :
    let s (q : TapState) : State := { svc with script := [.tck false false], tap := { Tap.reset with state := q, irShift := 1 } }
    seen (step (s .shiftIr)) (fun t => (t.outputs.nTdoEn, t.outputs.tdo)) = some (false, true) ∧
      seen (step (s .captureIr)) (fun t => (t.outputs.nTdoEn, t.tap.state)) = some (true, .shiftIr) := by decide

/-- Debug state with two words scanned in, the first with bit 33 as given. -/
def stopped (p q : Word) (mark : Bool) : State :=
  { debugged (with3 svc 0 0x1000 0) with dbg := { Dbg.reset with inDebug := true, pipe := [{ word := p, mark := mark }, { word := q, mark := false }] } }

theorem witness_DebugStateExecutesScannedInstructions :
    let s := stopped 0xE0810002 0 false
    Mode.ofBits s.cpsr.m ≠ none ∧ s.cpsr.t = false ∧ s.dbg.inDebug = true ∧ s.dbg.phase = .ready ∧
      reads false 0xE0810002 ((Operand2.shi 0#5 .lsl 2#4).instr .add .al false 1#4 0#4) = true ∧
      Runs ((Operand2.shi 0#5 .lsl 2#4).instr .add .al false 1#4 0#4) ((Operand2.shi 0#5 .lsl 2#4).reads 1#4) s ∧
      reads false 0xEF000000 (.swi .al 0#24) = true ∧ reads false 0xE1020091 (.swp .al 2#4 0#4 1#4) = true := by decide
theorem witness_DebugStateExecutesScannedInstructions_branch :
    let s := stopped 0xE1A00000 0xEAFFFFF9 true
    s.usrLdm = false ∧ s.env.params.dbgen = true ∧ reads false 0xEAFFFFF9 (.b .al 0xFFFFF9#24) = true ∧
      seen s.restart (fun t => (t.dbg.inDebug, t.pc)) = some (false, 0x7FF0#32) := by decide
theorem witness_DebugStateExecutesScannedInstructions_load :
    (let s := stopped 0xE1A00000 0xE5910000 true
     let s' : State := { s.begun with pc := s.pc + 4, dbg := { s.dbg with feed := none } }
     decide (reads false 0xE5910000 (.ldrImm .al true false 1#4 0#4 0#12) = true) &&
     loadMeets s' (.ldrImm .al true false 1#4 0#4 0#12) (fun f => decide (Loads s' (.ldrImm .al true false 1#4 0#4 0#12) f ∧ f.rd ≠ 15#4)) &&
     decide (seen s.restart (fun t => (t.dbg.inDebug, t.dbg.bit33, t.pc)) = some (true, some true, 0x8010#32))) = true := by decide

/-- ABORT on every read of 0x1000 (61_debug.md, rule R561 (g)): LDR R0, [R1] at system speed enters Abort mode, SPSR_abt takes the CPSR
and r0 stays, and the core is back in debug state; without the abort the mode stays. -/
theorem test_abortAtSystemSpeed :
    let s := stopped 0xE1A00000 0xE5910000 true
    let after (u : State) := (u.cpsr.m, u.spsr.abt.m, u.regs.r0, u.dbg.inDebug)
    seen (aborting s 0x1000 0x1000 .read).restart after = some (0x17#5, 0x13#5, s.regs.r0, true) ∧
      seen s.restart (fun u => (u.cpsr.m, u.dbg.inDebug)) = some (0x13#5, true) := by decide

/-- The same load clocked at debug speed ignores the abort and takes the word scanned in (20_memory.md, rule R102). -/
theorem test_abortIgnoredInDebugState :
    let s := stopped 0xE5910000 0xE1A00000 false
    seen ({ aborting s 0x1000 0x1000 .read with dbg := { s.dbg with phase := .loading 1 [] } }.debugClock { word := 0x1234, mark := false })
      (fun u => (u.cpsr.m, u.regs.r0, u.dbg.inDebug, u.bus)) = some (0x13#5, 0x1234#32, true, []) := by decide

theorem witness_EmbeddedIceRegisterAccess :
    (let s := debugged svc
     (s.mayProgram s.ice.w0 { s.ice.w0 with ctlValue := 0x100#9 }) = false ∧ (s.mayProgram s.ice.w0 { s.ice.w0 with ctlValue := 0xFF#9 }) = true) ∧
    seen ({ svc with script := [] }.iceWrite 0#5 1) (fun t => t.outputs.dbgack) = some true := by decide

end Sys2Proof.Tests
end

section
/-! PROOFS. What an instruction can do at all: it is a sequence of elementary changes of the state, the micro-operations, perhaps
with an exception entry after them. Each invariant of instructions then needs one case for each micro-operation. -/

namespace Sys2Proof.Machine

/-! ## States that agree in the core -/

/-- Two states that agree in the registers, the status registers, memory, whether the core is in debug state, and the parameters;
free values, records, pins, coprocessors and the debug hardware may differ. -/
structure SameCore (s t : State) : Prop where
  regs : t.regs = s.regs
  pc : t.pc = s.pc
  cpsr : t.cpsr = s.cpsr
  spsr : t.spsr = s.spsr
  mem : t.mem = s.mem
  inDebug : t.dbg.inDebug = s.dbg.inDebug
  params : t.env.params = s.env.params

theorem SameCore.refl (s : State) : SameCore s s := ⟨rfl, rfl, rfl, rfl, rfl, rfl, rfl⟩

theorem SameCore.trans {s t u : State} (h : SameCore s t) (g : SameCore t u) : SameCore s u :=
  ⟨g.regs.trans h.regs, g.pc.trans h.pc, g.cpsr.trans h.cpsr, g.spsr.trans h.spsr, g.mem.trans h.mem,
    g.inDebug.trans h.inDebug, g.params.trans h.params⟩

theorem SameCore.mode {s t : State} (h : SameCore s t) : t.mode = s.mode := by simp only [State.mode, h.cpsr]

theorem SameCore.fresh (s : State) : SameCore s s.fresh := ⟨rfl, rfl, rfl, rfl, rfl, rfl, rfl⟩

theorem SameCore.begun (s : State) : SameCore s s.begun := ⟨rfl, rfl, rfl, rfl, rfl, rfl, rfl⟩

theorem SameCore.drawn (s : State) : SameCore s s.drawn := ⟨rfl, rfl, rfl, rfl, rfl, rfl, rfl⟩

theorem SameCore.requested (s : State) (o : CopOffer) (r : CopRule) (taken data : List Word) (b : Bool) :
    SameCore s (s.requested o r taken data b) := ⟨rfl, rfl, rfl, rfl, rfl, rfl, rfl⟩

theorem ReadFrame.sameCore {s t : State} (h : ReadFrame s t) : SameCore s t := by
  constructor <;> rw [h.eq]

/-- Comparing bus cycles is the debug hardware's business alone. -/
theorem State.observeAll_sameCore (xs : List BusAccess) (s : State) : SameCore s (State.observeAll xs s).2 := by
  constructor <;> rw [State.observeAll_frame]

theorem State.watched_sameCore (t s : State) : SameCore t (t.watched s) := by
  have h := State.observeAll_sameCore (t.accessesSince s) t
  unfold State.watched
  dsimp only
  split
  · exact ⟨h.regs, h.pc, h.cpsr, h.spsr, h.mem, h.inDebug, h.params⟩
  · exact h

/-! ## The micro-operations -/

/-- One elementary change of the state that an instruction makes. -/
inductive MicroOp (s : State) : State → Prop
  /-- Something changes that is not of the core. -/
  | quiet {t : State} (h : SameCore s t) : MicroOp s t
  /-- A data write. -/
  | store {t : State} (h : WriteFrame s t) : MicroOp s t
  /-- A register of the current mode or of the User bank is written. -/
  | setIn (m : Mode) (n : Reg) (v : Word) (hm : m = s.mode ∨ m = .usr) : MicroOp s (s.setIn m n v)
  /-- Flags or reserved bits of the CPSR change. -/
  | flags (p : Psr) (hm : p.m = s.cpsr.m) (hi : p.i = s.cpsr.i) (hf : p.f = s.cpsr.f) (ht : p.t = s.cpsr.t) :
      MicroOp s { s with cpsr := p }
  /-- The control field of the CPSR but for T is written, by one who may. -/
  | control (p : Psr) (ht : p.t = s.cpsr.t) (hp : s.isPriv = true ∨ s.dbg.inDebug = true) : MicroOp s { s with cpsr := p }
  /-- The SPSR of a mode that has one is written. -/
  | saved (p : Psr) (h : s.spsr.get s.mode ≠ none) : MicroOp s { s with spsr := s.spsr.set s.mode p }
  /-- Sequential execution. -/
  | advance : MicroOp s { s with pc := s.pc + s.len }
  /-- A branch. -/
  | branchTo (v : Word) : MicroOp s (s.branchTo v)
  /-- A branch with the choice of the state. -/
  | exchange (v : Word) : MicroOp s (s.exchange v)
  /-- A return from an exception. -/
  | restore (p : Psr) (v : Word) (h : s.spsr.get s.mode = some p) : MicroOp s (({ s with cpsr := p } : State).branchTo v)

/-- Micro-operations in turn. -/
abbrev MicroOps : State → State → Prop := Relation.ReflTransGen MicroOp

/-- How an instruction that answers a next state completes: after its micro-operations, or with an exception entry after them. -/
inductive Completes (s : State) : State → Prop
  | normally {t : State} (h : MicroOps s t) : Completes s t
  | exception {u : State} (h : MicroOps s u) (e : Exc) : Completes s (u.takeException e)

theorem MicroOp.setReg (s : State) (n : Reg) (v : Word) : MicroOp s (s.setReg n v) := .setIn _ n v (.inl rfl)

theorem Completes.after {s u t : State} (h : MicroOps s u) (c : Completes u t) : Completes s t := by
  cases c with
  | normally g => exact .normally (h.trans g)
  | exception g e => exact .exception (h.trans g) e

/-- One more micro-operation in front. -/
theorem MicroOps.after {s u t : State} (g : MicroOps u t) (h : MicroOp s u) : MicroOps s t := .head h g

theorem MicroOps.quiet {s t : State} (h : SameCore s t) : MicroOps s t := .single (.quiet h)

theorem MicroOps.setReg (s : State) (n : Reg) (v : Word) : MicroOps s (s.setReg n v) := .single (.setReg s n v)

/-! ## How instructions end -/

theorem State.advance_ops {s t : State} (h : s.advance = .next t) : MicroOps s t := by
  rw [State.advance_next h]
  exact .single .advance

theorem State.setReg_advance_ops {s t : State} {n : Reg} {v : Word} (h : (s.setReg n v).advance = .next t) : MicroOps s t :=
  .head (.setReg s n v) (State.advance_ops h)

theorem State.writeAndAdvance_ops {s t : State} {n : Reg} {v : Word} (h : s.writeAndAdvance n v = .next t) : MicroOps s t := by
  unfold State.writeAndAdvance at h
  split at h
  · cases h; exact .single (.branchTo v)
  · exact State.setReg_advance_ops h

theorem State.returnTo_ops {s t : State} {v : Word} (h : s.returnTo v = .next t) : MicroOps s t := by
  rcases s.returnTo_cases v with ⟨_, e⟩ | ⟨p, hp, e⟩ <;> rw [e] at h <;> cases h
  exact .single (.restore p v hp)

theorem runArm_completes {cond : Cond} {r : Option Restriction} {reads : List Reg} {s t : State} {effect : State → Result}
    (he : effect s.begun = .next t → Completes s t) (h : runArm cond r reads s effect = .next t) : Completes s t := by
  obtain ⟨_, _, ⟨_, ha⟩ | ⟨_, _, _, hb⟩⟩ := runArm_next h
  · exact .normally ((MicroOps.quiet (.begun s)).trans (State.advance_ops ha))
  · exact he hb

/-- As `runArm_completes` for an effect of the begun state alone. -/
theorem runArm_completes_of_effect {cond : Cond} {r : Option Restriction} {reads : List Reg} {s t : State}
    {effect : State → Result} (h : runArm cond r reads s effect = .next t) (he : ∀ {u}, effect u = .next t → Completes u t) :
    Completes s t :=
  runArm_completes (fun hb => (he hb).after (.quiet (.begun s))) h

/-! ## Data processing and multiplies -/

/-- The flags of a data processing result leave the control field. -/
theorem DpResult.flags_control (r : DpResult) (p : Psr) (c : Bool) :
    (r.flags p c).m = p.m ∧ (r.flags p c).i = p.i ∧ (r.flags p c).f = p.f ∧ (r.flags p c).t = p.t := by
  cases r <;> exact ⟨rfl, rfl, rfl, rfl⟩

theorem DpResult.flags_op (r : DpResult) (s : State) (c : Bool) : MicroOp s { s with cpsr := r.flags s.cpsr c } := by
  obtain ⟨hm, hi, hf, ht⟩ := r.flags_control s.cpsr c
  exact .flags _ hm hi hf ht

theorem dpFinish_completes {op : DpOp} {sf : Bool} {rd : Reg} {a : Word} {b : Shifted} {s t : State}
    (h : dpFinish op sf rd a b s = .next t) : Completes s t := by
  refine .normally ?_
  unfold dpFinish at h
  dsimp only at h
  split at h
  · split at h
    · split at h
      · exact State.returnTo_ops h
      · exact .head (DpResult.flags_op _ s _) (State.setReg_advance_ops h)
    · exact State.writeAndAdvance_ops h
  · exact .head (DpResult.flags_op _ s _) (State.advance_ops h)

theorem multiplyFlags_ops (s : State) (r : Word) : MicroOps s (s.multiplyFlags r) :=
  .head (.quiet (.drawn s)) (.single (.flags { s.cpsr.withNz r with c := s.freeBit } rfl rfl rfl rfl))

theorem longMultiplyFlags_ops (s : State) (r : BitVec 64) : MicroOps s (s.longMultiplyFlags r) :=
  .head (.quiet ((SameCore.drawn s).trans (.drawn _)))
    (.single (.flags { s.cpsr.withNz64 r with c := s.freeBit, v := s.drawn.freeBit } rfl rfl rfl rfl))

theorem multiplyFinish_completes {sf : Bool} {rd : Reg} {r : Word} {s t : State} (h : multiplyFinish sf rd r s = .next t) :
    Completes s t := by
  refine .normally ?_
  cases sf with
  | false => exact State.setReg_advance_ops h
  | true => exact (multiplyFlags_ops s r).trans (State.setReg_advance_ops h)

theorem longMultiplyFinish_completes {sf : Bool} {rdHi rdLo : Reg} {r : BitVec 64} {s t : State}
    (h : longMultiplyFinish sf rdHi rdLo r s = .next t) : Completes s t := by
  refine .normally ?_
  cases sf with
  | false => exact .head (.setReg s rdLo _) (State.setReg_advance_ops h)
  | true => exact ((longMultiplyFlags_ops s r).trans (MicroOps.setReg _ rdLo _)).trans (State.setReg_advance_ops h)

/-! ## Single transfers and swap -/

theorem State.writeBase_ops (s : State) (t : Transfer) (rn : Reg) : MicroOps s (s.writeBase t rn) := by
  unfold State.writeBase
  split
  · exact .setReg s rn _
  · exact .refl

theorem singleLoad_completes {k : LoadKind} {user : Bool} {tr : Transfer} {rn rd : Reg} {s t : State}
    (h : singleLoad k user tr rn rd s = .next t) : Completes s t := by
  unfold singleLoad at h
  split at h
  · cases h
  · rcases s.dataRead_cases tr.addr k.size (s.isPriv && !user) false with ⟨v, u, e, f⟩ | ⟨u, e, f, _⟩ <;> rw [e] at h
    · exact .normally (.head (.quiet f.sameCore) ((u.writeBase_ops tr rn).trans (State.writeAndAdvance_ops h)))
    · cases h
      exact .exception (.head (.quiet f.sameCore) (u.writeBase_ops tr rn)) _

theorem singleStore_completes {z : Size} {user : Bool} {tr : Transfer} {rn rd : Reg} {s t : State}
    (h : singleStore z user tr rn rd s = .next t) : Completes s t := by
  unfold singleStore at h
  split at h
  · cases h
  · rcases s.dataWrite_cases tr.addr z (s.regAhead rd) (s.isPriv && !user) false with
      ⟨u, e, f⟩ | ⟨u, e, f, _⟩ | e <;> rw [e] at h
    · exact .normally (.head (.store f) ((u.writeBase_ops tr rn).trans (State.advance_ops h)))
    · cases h
      exact .exception (.head (.store f) (u.writeBase_ops tr rn)) _
    · cases h

theorem swap_completes {k : LoadKind} {rn rd rm : Reg} {s t : State} (h : swap k rn rd rm s = .next t) : Completes s t := by
  unfold swap at h
  dsimp only at h
  split at h
  · cases h
  · rcases s.dataRead_cases (s.reg rn) k.size s.isPriv true with ⟨v, u, e, f⟩ | ⟨u, e, f, _⟩ <;> simp only [e] at h
    · have hu := MicroOps.quiet f.sameCore
      rcases u.dataWrite_cases (s.reg rn) k.size (s.reg rm) s.isPriv true with
        ⟨w, e', g⟩ | ⟨w, e', g, _⟩ | e' <;> simp only [e'] at h
      · exact .normally ((hu.tail (.store g)).trans (State.setReg_advance_ops h))
      · cases h
        exact .exception (hu.tail (.store g)) _
      · cases h
    · cases h
      exact .exception (.quiet f.sameCore) _

/-! ## Block transfers -/

theorem State.loadRegs_ops (m : Mode) (pairs : List (Reg × Word)) (s : State) (hm : m = s.mode ∨ m = .usr) :
    MicroOps s (State.loadRegs m pairs s) := by
  induction pairs generalizing s with
  | nil => exact .refl
  | cons p rest ih =>
    refine .head (.setIn m p.1 p.2 hm) (ih _ ?_)
    simpa only [State.mode, State.setIn_cpsr] using hm

/-- The registers that take part in a block transfer are those of the current mode or of the User bank. -/
theorem blockBank_cases (s : State) (userBank : Bool) : blockBank s userBank = s.mode ∨ blockBank s userBank = .usr := by
  cases userBank
  · exact .inl rfl
  · exact .inr rfl

theorem State.setReg_if_ops (b : Bool) (s : State) (n : Reg) (v : Word) : MicroOps s (if b then s.setReg n v else s) := by
  split
  · exact .setReg s n v
  · exact .refl

theorem State.mode_setReg_if (b : Bool) (s : State) (n : Reg) (v : Word) : (if b then s.setReg n v else s).mode = s.mode := by
  split
  · exact State.mode_setReg s n v
  · rfl

theorem blockLoad_completes {bm : BlockMode} {sf w : Bool} {rn : Reg} {list : BitVec 16} {s t : State}
    (h : blockLoad bm sf w rn list s = .next t) : Completes s t := by
  unfold blockLoad at h
  dsimp only at h
  split at h
  · cases h
  split at h
  · cases h
  obtain ⟨ds, aborted, u, e, f, _⟩ :=
    State.readBurst_frame s.isPriv (listed list).length (bm.start (s.reg rn) list) s
  have hu := MicroOps.quiet f.sameCore
  have hbank := blockBank_cases s (sf && !inList list 15#4)
  rw [← f.sameCore.mode] at hbank
  simp only [e] at h
  cases aborted with
  | true =>
    cases h
    exact .exception ((hu.trans (State.loadRegs_ops _ _ _ hbank)).trans (MicroOps.setReg ..)) _
  | false =>
    rw [← State.mode_setReg_if w u rn (bm.newBase (s.reg rn) list)] at hbank
    have hl := (hu.trans (State.setReg_if_ops w u rn (bm.newBase (s.reg rn) list))).trans
      (State.loadRegs_ops _ ((listed list).zip ds) _ hbank)
    simp only [Bool.false_eq_true, if_false] at h
    refine .normally (hl.trans ?_)
    split at h
    · split at h
      · exact State.returnTo_ops h
      · cases h; exact .single (.branchTo _)
    · exact (State.advance_ops h).after (.quiet ⟨rfl, rfl, rfl, rfl, rfl, rfl, rfl⟩)

theorem blockStore_completes {bm : BlockMode} {sf w : Bool} {rn : Reg} {list : BitVec 16} {s t : State}
    (h : blockStore bm sf w rn list s = .next t) : Completes s t := by
  unfold blockStore at h
  dsimp only at h
  split at h
  · cases h
  rcases State.writeBurst_frame s.isPriv ((listed list).map (s.regView (blockBank s sf) (s.pc + 12)))
    (bm.start (s.reg rn) list) s with ⟨aborted, u, e, f⟩ | e <;> simp only [e] at h
  · have hb := (State.setReg_if_ops w u rn (bm.newBase (s.reg rn) list)).after (.store f)
    split at h
    · cases h; exact .exception hb _
    · exact .normally (hb.trans (State.advance_ops h))
  · cases h

/-! ## Status registers -/

theorem mrs_completes {r : Bool} {rd : Reg} {s t : State} (h : mrs r rd s = .next t) : Completes s t := by
  refine .normally ?_
  cases r with
  | false =>
    let q := s.readPsr s.cpsr
    have hq : SameCore s { s.drawn with psrRead := { s.psrRead with cpsr := some q.reserved } } :=
      ⟨rfl, rfl, rfl, rfl, rfl, rfl, rfl⟩
    exact .head (.quiet hq) (.head (.flags q rfl rfl rfl rfl) (State.setReg_advance_ops h))
  | true =>
    simp only [mrs, if_true] at h
    cases hp : s.spsr.get s.mode with
    | none => simp only [hp] at h; cases h
    | some p =>
      simp only [hp] at h
      let q := s.readPsr p
      have hq : SameCore s { s.drawn with psrRead := s.psrRead.setSpsr s.mode q.reserved } :=
        ⟨rfl, rfl, rfl, rfl, rfl, rfl, rfl⟩
      refine .head (.quiet hq) (.head (.saved q ?_) (State.setReg_advance_ops h))
      rw [hq.spsr, hq.mode, hp]
      exact Option.some_ne_none p

/-- Without the control field a write leaves the mode, I, F and T. -/
theorem Psr.writeFields_control {mask : BitVec 4} (h : mask.getLsbD 0 = false) (p : Psr) (v : Word) :
    (p.writeFields mask v).m = p.m ∧ (p.writeFields mask v).i = p.i ∧ (p.writeFields mask v).f = p.f ∧
      (p.writeFields mask v).t = p.t := by
  simp only [Psr.writeFields, h, Bool.false_eq_true, if_false, and_self]

/-- In User mode, outside debug state, the mask that counts has no control field. -/
theorem State.effectiveMask_user {s : State} (hp : s.isPriv = false) (hd : s.dbg.inDebug = false) (mask : BitVec 4) :
    (s.effectiveMask mask).getLsbD 0 = false := by
  simp [State.effectiveMask, hp, hd]

/-- A write of the CPSR that keeps T is a micro-operation: of the flags in User mode, of the control field elsewhere. -/
theorem State.writeCpsr_op (s : State) (mask : BitVec 4) (v : Word)
    (ht : ¬ ((s.effectiveMask mask).getLsbD 0 = true ∧ v.getLsbD 5 ≠ s.cpsr.t)) :
    MicroOp s { s with cpsr := s.cpsr.writeFields (s.effectiveMask mask) v } := by
  by_cases hp : s.isPriv = true ∨ s.dbg.inDebug = true
  · refine .control _ ?_ hp
    cases hc : (s.effectiveMask mask).getLsbD 0 with
    | false => exact (Psr.writeFields_control hc s.cpsr v).2.2.2
    | true => simpa [Psr.writeFields, hc] using ht
  · obtain ⟨hp, hd⟩ := not_or.mp hp
    obtain ⟨hm, hi, hf, ht⟩ := Psr.writeFields_control
      (State.effectiveMask_user (by simpa using hp) (by simpa using hd) mask) s.cpsr v
    exact .flags _ hm hi hf ht

theorem msr_completes {r : Bool} {mask : BitVec 4} {v : Word} {s t : State} (h : msr r mask v s = .next t) : Completes s t := by
  refine .normally ?_
  unfold msr at h
  split at h
  · cases hp : s.spsr.get s.mode with
    | none => simp only [hp] at h; cases h
    | some p =>
      simp only [hp] at h
      split at h
      · cases h
      · exact .head (.saved _ (by rw [hp]; exact Option.some_ne_none p)) (State.advance_ops h)
  · dsimp only at h
    split at h
    · cases h
    · next ht =>
      split at h
      · cases h
      · exact .head (s.writeCpsr_op mask v ht) (State.advance_ops h)

/-! ## Coprocessors -/

/-- The handshake completes where the present coprocessor's effect does: the trap is an exception, the wait
no change of the core. -/
theorem handshake_completes {i : Instr} {o : CopOffer} {s t : State} {present : CopPort → CopRule → Result}
    (hp : ∀ p r, present p r = .next t → Completes s.begun t) (h : handshake i o s s.begun present = .next t) :
    Completes s t := by
  have hb := MicroOps.quiet (SameCore.begun s)
  rcases handshake_cases i o s s.begun present with e | e | e | ⟨p, r, _, _, e⟩ <;> rw [e] at h
  · cases h; exact .exception hb _
  · cases h
  · cases h; exact .normally (.quiet ⟨rfl, rfl, rfl, rfl, rfl, rfl, rfl⟩)
  · exact (hp p r h).after hb

theorem deliver_ops {rd : Reg} {v : Word} {s t : State} (h : deliver rd v s = .next t) : MicroOps s t := by
  unfold deliver at h
  split at h
  · exact (State.advance_ops h).after (.flags _ rfl rfl rfl rfl)
  · exact State.setReg_advance_ops h

theorem debugRead_completes {op1 : BitVec 3} {crn : BitVec 4} {rd : Reg} {op2 : BitVec 3} {crm : BitVec 4} {s t : State}
    (h : debugRead op1 crn rd op2 crm s = .next t) : Completes s t := by
  unfold debugRead at h
  split at h
  · exact .normally (.head (.quiet (.drawn s)) (deliver_ops h))
  · split at h
    · exact .normally ((deliver_ops h).after (.quiet ⟨rfl, rfl, rfl, rfl, rfl, rfl, rfl⟩))
    · cases h

theorem debugWrite_completes {op1 : BitVec 3} {crn : BitVec 4} {rd : Reg} {op2 : BitVec 3} {crm : BitVec 4} {s0 s t : State}
    (h : debugWrite op1 crn rd op2 crm s0 s = .next t) : Completes s t := by
  unfold debugWrite at h
  split at h
  · split at h
    · cases h
    · split at h
      · cases h
      · exact .normally ((State.advance_ops h).after (.quiet ⟨rfl, rfl, rfl, rfl, rfl, rfl, rfl⟩))
  · cases h

theorem cdp_completes {i : Instr} {num op1 crn crd : BitVec 4} {op2 : BitVec 3} {crm : BitVec 4} {s t : State}
    (h : cdp i num op1 crn crd op2 crm s s.begun = .next t) : Completes s t := by
  unfold cdp at h
  dsimp only at h
  split at h
  · cases h
  · exact handshake_completes (fun _ _ h => .normally (.head (.quiet (.requested ..)) (State.advance_ops h))) h

theorem mcr_completes {i : Instr} {num : BitVec 4} {op1 : BitVec 3} {crn : BitVec 4} {rd : Reg} {op2 : BitVec 3} {crm : BitVec 4}
    {s t : State} (h : mcr i num op1 crn rd op2 crm s s.begun = .next t) : Completes s t := by
  unfold mcr at h
  dsimp only at h
  split at h
  · exact (debugWrite_completes h).after (.quiet (.begun s))
  · refine handshake_completes (fun _ r h => ?_) h
    split at h
    · cases h
    · split at h
      · cases h
      · exact .normally (.head (.quiet (.requested ..)) (State.advance_ops h))

theorem mrc_completes {i : Instr} {num : BitVec 4} {op1 : BitVec 3} {crn : BitVec 4} {rd : Reg} {op2 : BitVec 3} {crm : BitVec 4}
    {s t : State} (h : mrc i num op1 crn rd op2 crm s s.begun = .next t) : Completes s t := by
  unfold mrc at h
  dsimp only at h
  split at h
  · exact (debugRead_completes h).after (.quiet (.begun s))
  · exact handshake_completes (fun _ _ h => .normally (.head (.quiet (.requested ..)) (deliver_ops h))) h

/-- The end that LDC and STC share: the coprocessor is told, and the base is written back. -/
theorem State.requested_writeCopBase_ops {s : State} {o : CopOffer} {r : CopRule} {taken data : List Word} {b : Bool} {t : Transfer}
    {rn : Reg} : MicroOps s ((s.requested o r taken data b).writeCopBase t rn) :=
  (State.writeBase_ops _ t rn).after (.quiet (.requested ..))

theorem ldc_completes {i : Instr} {p u l w : Bool} {rn : Reg} {crd num : BitVec 4} {off : BitVec 8} {s t : State}
    (h : ldc i p u l w rn crd num off s s.begun = .next t) : Completes s t := by
  unfold ldc at h
  dsimp only at h
  split at h
  · cases h
  refine handshake_completes (fun _ r h => ?_) h
  split at h
  · cases h
  split at h
  · cases h
  split at h
  · cases h
  obtain ⟨ds, aborted, x, e, f, _⟩ := State.readBurst_frame s.begun.isPriv (r.takesMore.length + 1)
    (copTransfer p u w (s.begun.reg rn) off).addr s.begun
  simp only [e] at h
  have hx := MicroOps.quiet f.sameCore
  split at h
  · cases h; exact .exception (hx.trans State.requested_writeCopBase_ops) _
  · exact .normally (hx.trans (State.requested_writeCopBase_ops.trans (State.advance_ops h)))

theorem stc_completes {i : Instr} {p u l w : Bool} {rn : Reg} {crd num : BitVec 4} {off : BitVec 8} {s t : State}
    (h : stc i p u l w rn crd num off s s.begun = .next t) : Completes s t := by
  unfold stc at h
  dsimp only at h
  split at h
  · cases h
  refine handshake_completes (fun c r h => ?_) h
  split at h
  · cases h
  split at h
  · cases h
  split at h
  · cases h
  rcases State.writeBurst_frame s.begun.isPriv (c.given r) (copTransfer p u w (s.begun.reg rn) off).addr s.begun with
    ⟨aborted, x, e, f⟩ | e <;> simp only [e] at h
  · split at h
    · cases h; exact .exception (State.requested_writeCopBase_ops.after (.store f)) _
    · exact .normally (.head (.store f) (State.requested_writeCopBase_ops.trans (State.advance_ops h)))
  · cases h

/-! ## Every instruction -/

theorem branchTo_completes {s t : State} {v : Word} (h : (.next (s.branchTo v) : Result) = .next t) : Completes s t := by
  cases h; exact .normally (.single (.branchTo v))

theorem setReg_branchTo_completes {s t : State} {n : Reg} {v w : Word}
    (h : (.next ((s.setReg n v).branchTo w) : Result) = .next t) : Completes s t := by
  cases h; exact .normally (.head (.setReg s n v) (.single (.branchTo w)))

theorem exchange_completes {s t : State} {v : Word} (h : (.next (s.exchange v) : Result) = .next t) : Completes s t := by
  cases h; exact .normally (.single (.exchange v))

theorem takeException_completes {s t : State} {e : Exc} (h : (.next (s.takeException e) : Result) = .next t) : Completes s t := by
  cases h; exact .exception .refl e

theorem writeAndAdvance_completes {s t : State} {n : Reg} {v : Word} (h : s.writeAndAdvance n v = .next t) : Completes s t :=
  .normally (State.writeAndAdvance_ops h)

theorem setReg_advance_completes {s t : State} {n : Reg} {v : Word} (h : (s.setReg n v).advance = .next t) : Completes s t :=
  .normally (State.setReg_advance_ops h)

theorem thumbBranch_completes {c : Cond} {off : BitVec 8} {s t : State} (h : thumbBranch c off s = .next t) : Completes s t := by
  rw [thumbBranch, runThumb] at h
  refine runArm_completes_of_effect h fun {u} hu => ?_
  split at hu
  · exact branchTo_completes hu
  · exact .normally (State.advance_ops hu)

/-- Whatever an instruction does, to whatever state, it is a sequence of micro-operations, or an exception entry after one. -/
theorem exec_completes {i : Instr} {s t : State} (h : exec i s = .next t) : Completes s t := by
  cases i with
  | andImm | eorImm | subImm | rsbImm | addImm | adcImm | sbcImm | rscImm | tstImm | teqImm | cmpImm | cmnImm | orrImm |
  movImm | bicImm | mvnImm =>
    simp only [exec, execAndImm, execEorImm, execSubImm, execRsbImm, execAddImm, execAdcImm, execSbcImm, execRscImm,
      execTstImm, execTeqImm, execCmpImm, execCmnImm, execOrrImm, execMovImm, execBicImm, execMvnImm, dpImm] at h
    exact runArm_completes_of_effect h dpFinish_completes
  | andShi | eorShi | subShi | rsbShi | addShi | adcShi | sbcShi | rscShi | tstShi | teqShi | cmpShi | cmnShi | orrShi |
  movShi | bicShi | mvnShi =>
    simp only [exec, execAndShi, execEorShi, execSubShi, execRsbShi, execAddShi, execAdcShi, execSbcShi, execRscShi,
      execTstShi, execTeqShi, execCmpShi, execCmnShi, execOrrShi, execMovShi, execBicShi, execMvnShi, dpShi] at h
    exact runArm_completes_of_effect h dpFinish_completes
  | andShr | eorShr | subShr | rsbShr | addShr | adcShr | sbcShr | rscShr | tstShr | teqShr | cmpShr | cmnShr | orrShr |
  movShr | bicShr | mvnShr =>
    simp only [exec, execAndShr, execEorShr, execSubShr, execRsbShr, execAddShr, execAdcShr, execSbcShr, execRscShr,
      execTstShr, execTeqShr, execCmpShr, execCmnShr, execOrrShr, execMovShr, execBicShr, execMvnShr, dpShr] at h
    exact runArm_completes_of_effect h dpFinish_completes
  | tLslImm | tLsrImm | tAsrImm | tAddReg | tSubReg | tAddImm3 | tSubImm3 | tMovImm | tCmpImm | tAddImm8 | tSubImm8 | tAnd |
  tEor | tLslReg | tLsrReg | tAsrReg | tAdc | tSbc | tRorReg | tTst | tNeg | tCmpReg | tCmn | tOrr | tBic | tMvn | tCmpHi =>
    simp only [exec, execTLslImm, execTLsrImm, execTAsrImm, execTAddReg, execTSubReg, execTAddImm3, execTSubImm3,
      execTMovImm, execTCmpImm, execTAddImm8, execTSubImm8, execTAnd, execTEor, execTLslReg, execTLsrReg, execTAsrReg,
      execTAdc, execTSbc, execTRorReg, execTTst, execTNeg, execTCmpReg, execTCmn, execTOrr, execTBic, execTMvn,
      execTCmpHi, thumbAlu, runThumb] at h
    exact runArm_completes_of_effect h dpFinish_completes
  | mul | mla =>
    simp only [exec, execMul, execMla] at h
    exact runArm_completes_of_effect h multiplyFinish_completes
  | tMul =>
    simp only [exec, execTMul, runThumb] at h
    exact runArm_completes_of_effect h (multiplyFinish_completes (sf := true))
  | umull | umlal | smull | smlal =>
    simp only [exec, execUmull, execUmlal, execSmull, execSmlal] at h
    exact runArm_completes_of_effect h longMultiplyFinish_completes
  | ldrhReg | ldrhImm | ldrsbReg | ldrsbImm | ldrshReg | ldrshImm | ldrImm | ldrImmPost | ldrReg | ldrRegPost | ldrbImm |
  ldrbImmPost | ldrbReg | ldrbRegPost | ldrtImm | ldrtReg | ldrbtImm | ldrbtReg =>
    simp only [exec, execLdrhReg, execLdrhImm, execLdrsbReg, execLdrsbImm, execLdrshReg, execLdrshImm, execLdrImm,
      execLdrImmPost, execLdrReg, execLdrRegPost, execLdrbImm, execLdrbImmPost, execLdrbReg, execLdrbRegPost,
      execLdrtImm, execLdrtReg, execLdrbtImm, execLdrbtReg, loadOp] at h
    exact runArm_completes_of_effect h singleLoad_completes
  | tLdrPc | tLdrsbReg | tLdrReg | tLdrhReg | tLdrbReg | tLdrshReg | tLdrImm | tLdrbImm | tLdrhImm | tLdrSp =>
    simp only [exec, execTLdrPc, execTLdrsbReg, execTLdrReg, execTLdrhReg, execTLdrbReg, execTLdrshReg, execTLdrImm,
      execTLdrbImm, execTLdrhImm, execTLdrSp, thumbLoad, runThumb] at h
    exact runArm_completes_of_effect h singleLoad_completes
  | strhReg | strhImm | strImm | strImmPost | strReg | strRegPost | strbImm | strbImmPost | strbReg | strbRegPost | strtImm
  | strtReg | strbtImm | strbtReg =>
    simp only [exec, execStrhReg, execStrhImm, execStrImm, execStrImmPost, execStrReg, execStrRegPost, execStrbImm,
      execStrbImmPost, execStrbReg, execStrbRegPost, execStrtImm, execStrtReg, execStrbtImm, execStrbtReg, storeOp] at h
    exact runArm_completes_of_effect h singleStore_completes
  | tStrReg | tStrhReg | tStrbReg | tStrImm | tStrbImm | tStrhImm | tStrSp =>
    simp only [exec, execTStrReg, execTStrhReg, execTStrbReg, execTStrImm, execTStrbImm, execTStrhImm, execTStrSp,
      thumbStore, runThumb] at h
    exact runArm_completes_of_effect h singleStore_completes
  | swp | swpb =>
    simp only [exec, execSwp, execSwpb] at h
    exact runArm_completes_of_effect h swap_completes
  | ldmia | ldmib | ldmda | ldmdb | tPop | tLdmia =>
    simp only [exec, execLdmia, execLdmib, execLdmda, execLdmdb, execTPop, execTLdmia, loadMultiple, runThumb] at h
    exact runArm_completes_of_effect h blockLoad_completes
  | stmia | stmib | stmda | stmdb | tPush | tStmia =>
    simp only [exec, execStmia, execStmib, execStmda, execStmdb, execTPush, execTStmia, storeMultiple, runThumb] at h
    exact runArm_completes_of_effect h blockStore_completes
  | mrs =>
    simp only [exec, execMrs] at h
    exact runArm_completes_of_effect h mrs_completes
  | msrReg | msrImm =>
    simp only [exec, execMsrReg, execMsrImm] at h
    exact runArm_completes_of_effect h msr_completes
  | b | tB =>
    simp only [exec, execB, execTB, runThumb] at h
    exact runArm_completes_of_effect h branchTo_completes
  | bl | tBlLo =>
    simp only [exec, execBl, execTBlLo, runThumb] at h
    exact runArm_completes_of_effect h setReg_branchTo_completes
  | bx | tBx =>
    simp only [exec, execBx, execTBx, runThumb] at h
    exact runArm_completes_of_effect h exchange_completes
  | tBeq | tBne | tBcs | tBcc | tBmi | tBpl | tBvs | tBvc | tBhi | tBls | tBge | tBlt | tBgt | tBle =>
    simp only [exec, execTBeq, execTBne, execTBcs, execTBcc, execTBmi, execTBpl, execTBvs, execTBvc, execTBhi, execTBls,
      execTBge, execTBlt, execTBgt, execTBle] at h
    exact thumbBranch_completes h
  | tAddHi | tMovHi =>
    simp only [exec, execTAddHi, execTMovHi, runThumb] at h
    exact runArm_completes_of_effect h writeAndAdvance_completes
  | tAddPc | tAddSp | tIncSp | tDecSp | tBlHi =>
    simp only [exec, execTAddPc, execTAddSp, execTIncSp, execTDecSp, execTBlHi, runThumb] at h
    exact runArm_completes_of_effect h setReg_advance_completes
  | swi | undefined | tSwi | tUndefined =>
    simp only [exec, execSwi, execUndefined, execTSwi, execTUndefined, runThumb] at h
    exact runArm_completes_of_effect h takeException_completes
  | cdp =>
    simp only [exec, execCdp] at h
    exact runArm_completes cdp_completes h
  | ldc =>
    simp only [exec, execLdc] at h
    exact runArm_completes ldc_completes h
  | stc =>
    simp only [exec, execStc] at h
    exact runArm_completes stc_completes h
  | mcr =>
    simp only [exec, execMcr] at h
    exact runArm_completes mcr_completes h
  | mrc =>
    simp only [exec, execMrc] at h
    exact runArm_completes mrc_completes h

end Sys2Proof.Machine
end

section
/-! PROOFS. What the micro-operations, and so every instruction, keep: the parameters and debug state, the invariant of the machine,
and in User mode everything privileged. -/

namespace Sys2Proof.Machine

/-! ## Parameters and debug state -/

/-- No instruction changes a parameter, and none enters or leaves debug state. -/
structure SameSetting (s t : State) : Prop where
  inDebug : t.dbg.inDebug = s.dbg.inDebug
  params : t.env.params = s.env.params

theorem SameSetting.trans {s t u : State} (h : SameSetting s t) (g : SameSetting t u) : SameSetting s u :=
  ⟨g.inDebug.trans h.inDebug, g.params.trans h.params⟩

theorem MicroOp.sameSetting {s t : State} (h : MicroOp s t) : SameSetting s t := by
  cases h with
  | quiet h => exact ⟨h.inDebug, h.params⟩
  | store h => constructor <;> rw [h.eq]
  | setIn m n v _ => exact ⟨by rw [State.setIn_dbg], by rw [State.setIn_env]⟩
  | flags | control | saved | advance | branchTo | exchange | restore => exact ⟨rfl, rfl⟩

theorem MicroOps.sameSetting {s t : State} (h : MicroOps s t) : SameSetting s t := by
  induction h with
  | refl => exact ⟨rfl, rfl⟩
  | tail _ g ih => exact ih.trans g.sameSetting

theorem exec_sameSetting {i : Instr} {s t : State} (h : exec i s = .next t) : SameSetting s t := by
  cases exec_completes h with
  | normally g => exact g.sameSetting
  | exception g e => exact ⟨g.sameSetting.inDebug, g.sameSetting.params⟩

/-! ## The invariant of the machine -/

/-- The invariant speaks of memory, the program counter and T alone. -/
theorem State.Inv.congr {s t : State} (h : s.Inv) (hm : t.mem = s.mem) (hp : t.pc = s.pc) (ht : t.cpsr.t = s.cpsr.t) : t.Inv := by
  simpa only [State.Inv, State.pcAligned, hm, hp, ht] using h

theorem SameCore.inv {s t : State} (h : SameCore s t) (hi : s.Inv) : t.Inv := hi.congr h.mem h.pc (by rw [h.cpsr])

/-- A word has its low bit clear where it is even. -/
theorem and_one_eq_zero_iff (v : Word) : v &&& 1#32 = 0#32 ↔ v.toNat % 2 = 0 := by
  rw [← BitVec.toNat_inj, BitVec.toNat_and, BitVec.toNat_ofNat, Nat.and_two_pow_sub_one_eq_mod v.toNat 1]
  rfl

/-- A word has its two low bits clear where it is a multiple of 4. -/
theorem and_three_eq_zero_iff (v : Word) : v &&& 3#32 = 0#32 ↔ v.toNat % 4 = 0 := by
  rw [← BitVec.toNat_inj, BitVec.toNat_and, BitVec.toNat_ofNat, Nat.and_two_pow_sub_one_eq_mod v.toNat 2]
  rfl

/-- The program counter is aligned where it is a multiple of the length of an instruction. -/
theorem State.pcAligned_iff (s : State) : s.pcAligned ↔ s.pc.toNat % s.len.toNat = 0 := by
  unfold State.pcAligned State.len
  split
  · exact and_one_eq_zero_iff s.pc
  · exact and_three_eq_zero_iff s.pc

theorem State.len_cases (s : State) : s.len = 2#32 ∨ s.len = 4#32 := by
  unfold State.len
  split
  · exact .inl rfl
  · exact .inr rfl

/-- An aligned program counter stays aligned when it moves by whole instructions. -/
theorem State.Inv.moved {s t : State} (h : s.Inv) (k : Word) (hm : t.mem = s.mem) (hp : t.pc = s.pc + k * s.len)
    (ht : t.cpsr.t = s.cpsr.t) : t.Inv := by
  have hl : t.len = s.len := by simp only [State.len, ht]
  have hs := s.pcAligned_iff.mp h.2
  refine ⟨by rw [hm]; exact h.1, t.pcAligned_iff.mpr ?_⟩
  rw [hl, hp, BitVec.toNat_add, BitVec.toNat_mul]
  rcases s.len_cases with e | e <;> rw [e] at hs ⊢ <;> simp only [BitVec.reduceToNat] at hs ⊢ <;> omega

theorem State.branchTo_pcAligned (s : State) (v : Word) : (s.branchTo v).pcAligned := by
  unfold State.pcAligned
  rw [State.branchTo_cpsr, State.branchTo_pc]
  split
  · rw [BitVec.and_assoc]; exact BitVec.and_zero
  · rw [BitVec.and_assoc]; exact BitVec.and_zero

theorem State.Inv.branchTo {s : State} (h : s.Inv) (v : Word) : (s.branchTo v).Inv := ⟨h.1, s.branchTo_pcAligned v⟩

theorem MicroOp.inv {s t : State} (h : MicroOp s t) (hi : s.Inv) : t.Inv := by
  cases h with
  | quiet h => exact h.inv hi
  | store h => exact ⟨h.wf hi.1, by rw [h.eq]; exact hi.2⟩
  | setIn m n v _ => exact hi.congr (by simp) (by simp) (by simp)
  | flags p _ _ _ ht => exact hi.congr rfl rfl ht
  | control p ht _ => exact hi.congr rfl rfl ht
  | saved => exact hi.congr rfl rfl rfl
  | advance => exact hi.moved 1#32 rfl (congrArg (s.pc + ·) (BitVec.one_mul _).symm) rfl
  | branchTo v => exact hi.branchTo v
  | exchange v => exact ⟨hi.1, State.branchTo_pcAligned _ v⟩
  | restore p v _ => exact ⟨hi.1, State.branchTo_pcAligned _ v⟩

theorem MicroOps.inv {s t : State} (h : MicroOps s t) (hi : s.Inv) : t.Inv := by
  induction h with
  | refl => exact hi
  | tail _ g ih => exact g.inv ih

theorem State.Inv.takeException {s : State} (h : s.Inv) (e : Exc) : (s.takeException e).Inv :=
  ⟨h.1, State.branchTo_pcAligned _ e.vector⟩

theorem State.Inv.enterDebug {s : State} (h : s.Inv) (k : Word) (b : Option Bool) : (s.enterDebug k b).Inv :=
  h.moved k rfl rfl rfl

/-- Every instruction keeps the invariant. -/
theorem exec_inv {i : Instr} {s t : State} (h : exec i s = .next t) (hi : s.Inv) : t.Inv := by
  cases exec_completes h with
  | normally g => exact g.inv hi
  | exception g e => exact (g.inv hi).takeException e

/-! ## What User mode cannot touch -/

/-- `t` is a state of User mode, outside debug state, with the privileged state of `s`: I, F, the saved status registers and the
registers of which User mode has no number. -/
structure UserFrame (s t : State) : Prop where
  m : t.cpsr.m = Mode.usr.bits
  inDebug : t.dbg.inDebug = false
  i : t.cpsr.i = s.cpsr.i
  f : t.cpsr.f = s.cpsr.f
  spsr : t.spsr = s.spsr
  regs : ∀ p, (∀ r, phys .usr r ≠ some p) → t.regs.get p = s.regs.get p

theorem UserFrame.refl {s : State} (hm : s.cpsr.m = Mode.usr.bits) (hd : s.dbg.inDebug = false) : UserFrame s s :=
  ⟨hm, hd, rfl, rfl, rfl, fun _ _ => rfl⟩

theorem UserFrame.trans {s t u : State} (h : UserFrame s t) (g : UserFrame t u) : UserFrame s u :=
  ⟨g.m, g.inDebug, g.i.trans h.i, g.f.trans h.f, g.spsr.trans h.spsr, fun p hp => (g.regs p hp).trans (h.regs p hp)⟩

/-- Where the core is left as it is, so is the frame. -/
theorem UserFrame.of_sameCore {s t : State} (h : SameCore s t) (hm : s.cpsr.m = Mode.usr.bits) (hd : s.dbg.inDebug = false) :
    UserFrame s t :=
  ⟨by rw [h.cpsr, hm], by rw [h.inDebug, hd], by rw [h.cpsr], by rw [h.cpsr], h.spsr, fun _ _ => by rw [h.regs]⟩

theorem State.mode_of_user {s : State} (hm : s.cpsr.m = Mode.usr.bits) : s.mode = .usr := by
  rw [State.mode, hm]; rfl

theorem State.isPriv_of_user {s : State} (hm : s.cpsr.m = Mode.usr.bits) : s.isPriv = false := by
  rw [State.isPriv, hm]; rfl

/-- User mode has no SPSR. -/
theorem State.spsr_of_user {s : State} (hm : s.cpsr.m = Mode.usr.bits) : s.spsr.get s.mode = none := by
  rw [State.mode_of_user hm]; rfl

/-- A write of a User register changes no register without a number in User mode. -/
theorem State.setIn_usr_get (s : State) (n : Reg) (v : Word) {p : PhysReg} (hp : ∀ r, phys .usr r ≠ some p) :
    (s.setIn .usr n v).regs.get p = s.regs.get p := by
  unfold State.setIn
  split
  · next q hq => exact RegFile.get_set_other s.regs (fun e : p = q => hp n (by rw [e]; exact hq)) v
  · rfl

/-- In User mode no micro-operation leaves it or touches privileged state: the control field and the saved status registers are out
of reach, and a register written is a User register. -/
theorem MicroOp.userFrame {s t : State} (h : MicroOp s t) (hm : s.cpsr.m = Mode.usr.bits) (hd : s.dbg.inDebug = false) :
    UserFrame s t := by
  cases h with
  | quiet h => exact .of_sameCore h hm hd
  | store h => rw [h.eq]; exact ⟨hm, hd, rfl, rfl, rfl, fun _ _ => rfl⟩
  | setIn m n v hb =>
    obtain rfl : m = .usr := hb.elim (·.trans (State.mode_of_user hm)) id
    exact ⟨by simpa using hm, by simpa using hd, by simp, by simp, by simp, fun p hp => s.setIn_usr_get n v hp⟩
  | flags p hpm hpi hpf _ => exact ⟨hpm.trans hm, hd, hpi, hpf, rfl, fun _ _ => rfl⟩
  | control p _ hp => simp [State.isPriv_of_user hm, hd] at hp
  | saved p hs => exact absurd (State.spsr_of_user hm) hs
  | advance => exact ⟨hm, hd, rfl, rfl, rfl, fun _ _ => rfl⟩
  | branchTo v => exact ⟨hm, hd, rfl, rfl, rfl, fun _ _ => rfl⟩
  | exchange v => exact ⟨hm, hd, rfl, rfl, rfl, fun _ _ => rfl⟩
  | restore p v hs => rw [State.spsr_of_user hm] at hs; cases hs

theorem MicroOps.userFrame {s t : State} (h : MicroOps s t) (hm : s.cpsr.m = Mode.usr.bits) (hd : s.dbg.inDebug = false) :
    UserFrame s t := by
  induction h with
  | refl => exact .refl hm hd
  | tail _ g ih => exact ih.trans (g.userFrame ih.m ih.inDebug)

/-- An instruction of User mode keeps the privileged state or takes an exception. -/
theorem exec_user {i : Instr} {s t : State} (h : exec i s = .next t) (hm : s.cpsr.m = Mode.usr.bits) (hd : s.dbg.inDebug = false) :
    UserFrame s t ∨ ∃ u e, t = State.takeException u e := by
  cases exec_completes h with
  | normally g => exact .inl (g.userFrame hm hd)
  | exception g e => exact .inr ⟨_, e, rfl⟩

/-- No exception enters User mode. -/
theorem Exc.mode_bits_ne_user (e : Exc) : e.mode.bits ≠ Mode.usr.bits := by cases e <;> decide

end Sys2Proof.Machine
end

section
/-! PROOFS. The boundary of a step: what it can come to, and what a step of the core and of the machine keeps. -/

namespace Sys2Proof.Machine

/-! ## The boundary -/

/-- What a boundary that executes no instruction leaves, given the state `s` it began in: no change of the core, an exception entry,
an entry to debug state, or the advance past an instruction whose Prefetch Abort the condition skips. -/
inductive Stops (s : State) : State → Prop
  | quiet {t : State} (h : SameCore s t) : Stops s t
  | exception {u : State} (h : SameCore s u) (e : Exc) : Stops s (u.takeException e)
  | enterDebug {u : State} (h : SameCore s u) (k : Word) (b : Option Bool) : Stops s (u.enterDebug k b)
  | skips {u : State} (h : SameCore s u) : Stops s { u with pc := u.pc + u.len }

/-- The fetch is not refused; it aborts or gives a word, and leaves the core as it is. -/
theorem State.fetch_cases (s : State) :
    (∃ t, s.fetch = .abort t ∧ SameCore s t) ∨ (∃ w t, s.fetch = .ok w t ∧ SameCore s t) := by
  unfold State.fetch
  dsimp only
  split
  · exact .inl ⟨_, rfl, ((ReadFrame.drawn s).logged _).sameCore⟩
  · exact .inr ⟨_, _, rfl, ((s.readValue_frame _ _).logged _).sameCore⟩

theorem State.prefetchAbort_stops {s t : State} (h : s.prefetchAbort = .next t) : Stops s t := by
  unfold State.prefetchAbort at h
  split at h
  · rw [State.advance_next h]
    exact .skips ((SameCore.drawn s).trans (.begun _))
  · cases h
    refine .exception ?_ .pabt
    exact ⟨rfl, rfl, rfl, rfl, rfl, rfl, rfl⟩

theorem State.debugAtBoundary_stops (s : State) : Stops s s.debugAtBoundary := by
  unfold State.debugAtBoundary
  split
  · exact .enterDebug (.refl s) _ _
  · exact .enterDebug (.refl s) _ _

/-- Whatever a boundary comes to from a state that agrees with `s`, it comes to from `s`. -/
theorem Stops.of_sameCore {s u t : State} (h : SameCore s u) (g : Stops u t) : Stops s t := by
  cases g with
  | quiet g => exact .quiet (h.trans g)
  | exception g e => exact .exception (h.trans g) e
  | enterDebug g k b => exact .enterDebug (h.trans g) k b
  | skips g => exact .skips (h.trans g)

/-- What reaching an answer from `s` means: a stop that answers a next state is one of `Stops`, and an instruction executes in a
state whose core is that of `s`. -/
def Reached.From (s : State) : Reached → Prop
  | .stops (.next t) => Stops s t
  | .stops _ => True
  | .executes _ t => SameCore s t

theorem State.fetchAndDecode_from (s : State) : s.fetchAndDecode.From s := by
  unfold State.fetchAndDecode
  rcases s.fetch_cases with ⟨t, e, h⟩ | ⟨w, t, e, h⟩ <;> rw [e] <;> dsimp only
  · have hc := h.trans (State.observeAll_sameCore t.bus t)
    cases ha : (State.observeAll t.bus t).2.prefetchAbort with
    | next u => exact (State.prefetchAbort_stops ha).of_sameCore hc
    | fault f => trivial
    | refused r => trivial
  · have hc := h.trans (State.observeAll_sameCore t.bus t)
    split
    · exact .enterDebug hc _ _
    · split
      · trivial
      · exact hc

theorem State.reach_from (s : State) : s.reach.From s := by
  unfold State.reach
  split
  · exact .quiet (.refl s)
  split
  · exact .quiet (.refl s)
  split
  · exact .exception (.refl s) _
  split
  · exact .exception (.refl s) _
  split
  · exact s.debugAtBoundary_stops
  · have hc : SameCore s { s with dbg := { s.dbg with entered := false } } := ⟨rfl, rfl, rfl, rfl, rfl, rfl, rfl⟩
    dsimp only
    split
    · exact hc
    · have hf := State.fetchAndDecode_from { s with dbg := { s.dbg with entered := false } }
      revert hf
      cases State.fetchAndDecode { s with dbg := { s.dbg with entered := false } } with
      | stops r => cases r with
        | next t => exact fun hf => Stops.of_sameCore hc hf
        | fault f => exact id
        | refused r => exact id
      | executes i t => exact fun hf => hc.trans hf

theorem State.runInstruction_next {s t : State} {i : Instr} (h : s.runInstruction i = .next t) :
    ∃ u, exec i s = .next u ∧ t = u.watched s := by
  unfold State.runInstruction at h
  cases e : exec i s with
  | next u => rw [e] at h; cases h; exact ⟨u, rfl, rfl⟩
  | fault f => rw [e] at h; cases h
  | refused r => rw [e] at h; cases h

/-- What a step of the core can do: stop at the boundary, or run an instruction on the same core, after which the debug hardware
compares its accesses. -/
theorem State.coreStep_cases {s t : State} (h : s.coreStep = .next t) :
    Stops s t ∨ ∃ i u v, SameCore s u ∧ exec i u = .next v ∧ SameCore v t := by
  have hf := s.fresh.reach_from
  unfold State.coreStep at h
  cases hr : s.fresh.reach with
  | stops r =>
    rw [hr] at h hf
    dsimp only at h
    subst h
    exact .inl (Stops.of_sameCore (.fresh s) hf)
  | executes i u =>
    rw [hr] at h hf
    obtain ⟨v, he, rfl⟩ := State.runInstruction_next h
    exact .inr ⟨i, u, v, (SameCore.fresh s).trans hf, he, v.watched_sameCore u⟩

/-! ## Every step keeps the invariant -/

theorem Stops.inv {s t : State} (h : Stops s t) (hi : s.Inv) : t.Inv := by
  cases h with
  | quiet h => exact h.inv hi
  | exception h e => exact (h.inv hi).takeException e
  | enterDebug h k b => exact (h.inv hi).enterDebug k b
  | skips h => exact MicroOp.advance.inv (h.inv hi)

theorem State.coreStep_inv {s t : State} (h : s.coreStep = .next t) (hi : s.Inv) : t.Inv := by
  rcases State.coreStep_cases h with hs | ⟨i, u, v, hu, he, hv⟩
  · exact hs.inv hi
  · exact hv.inv (exec_inv he (hu.inv hi))

/-! ## Reset -/

theorem State.Inv.warmReset {s : State} (h : s.mem.wf = true) : s.warmReset.Inv := by
  refine ⟨h, ?_⟩
  rw [State.pcAligned_iff]
  exact Nat.zero_mod _

/-- An instruction that reset abandons has at most stored to memory. -/
theorem State.abandoned_mem_wf (s : State) (k : Nat) (h : s.mem.wf = true) : (s.abandoned k).mem.wf = true := by
  have hf := s.fresh.reach_from
  unfold State.abandoned
  cases hr : s.fresh.reach with
  | stops r => exact h
  | executes i t =>
    rw [hr] at hf
    have ht : t.mem.wf = true := by rw [hf.mem]; exact h
    dsimp only
    split
    · rw [(State.observeAll_sameCore _ _).mem]
      exact (replays_frame _ t).wf ht
    · exact ht
    · exact ht

theorem State.resetEvent_inv {s t : State} {cycles : Nat} {after : Option Nat} (h : s.resetEvent cycles after = .next t)
    (hi : s.Inv) : t.Inv := by
  unfold State.resetEvent at h
  split at h
  · cases h
  · cases after with
    | none => cases h; exact .warmReset hi.1
    | some k => cases h; exact .warmReset (s.abandoned_mem_wf k hi.1)

/-! ## Debug state -/

theorem State.debugExec_inv {s t : State} {i : Instr} {ws : List Word} (h : s.debugExec i ws = .next t) (hi : s.Inv) : t.Inv := by
  unfold State.debugExec at h
  dsimp only at h
  split at h
  · cases h
  · cases h
  · next u he =>
    cases h
    exact (exec_inv he (hi.congr rfl rfl rfl)).congr rfl rfl rfl

theorem State.debugIssue_inv {s t : State} {slot : DbgSlot} (h : s.debugIssue slot = .next t) (hi : s.Inv) : t.Inv := by
  unfold State.debugIssue at h
  split at h
  · cases h
  · dsimp only at h
    split at h
    · cases h
    · split at h
      · exact State.debugExec_inv h hi
      · cases h; exact hi.congr rfl rfl rfl

theorem State.debugClock_inv {s t : State} {w : DbgSlot} (h : s.debugClock w = .next t) (hi : s.Inv) : t.Inv := by
  unfold State.debugClock at h
  split at h
  · cases h; exact hi
  · split at h
    · cases h; exact hi.congr rfl rfl rfl
    · cases h; exact hi.congr rfl rfl rfl
    · cases h; exact hi.congr rfl rfl rfl
    · dsimp only at h
      split at h
      · cases h; exact hi.congr rfl rfl rfl
      · split at h
        · cases h; exact hi.congr rfl rfl rfl
        · split at h
          · cases h
          · exact State.debugExec_inv h (hi.congr rfl rfl rfl)
    · split at h
      · exact State.debugIssue_inv h (hi.congr rfl rfl rfl)
      · cases h; exact hi.congr rfl rfl rfl

/-- A multiple of 4 is aligned in either state. -/
theorem State.pcAligned_of_word {s : State} {v : Word} (h : s.pc = v &&& 0xFFFFFFFC#32) : s.pcAligned := by
  have h4 : s.pc &&& 3#32 = 0#32 := by rw [h, BitVec.and_assoc]; exact BitVec.and_zero
  rw [and_three_eq_zero_iff] at h4
  rw [State.pcAligned_iff]
  rcases s.len_cases with e | e <;> rw [e] <;> simp only [BitVec.reduceToNat] <;> omega

theorem State.Inv.systemSpeedEnd {s : State} (h : s.Inv) : s.systemSpeedEnd.Inv := by
  have hd := h.enterDebug 2 (some true)
  unfold State.systemSpeedEnd
  dsimp only
  split
  · exact ⟨h.1, State.pcAligned_of_word rfl⟩
  · exact hd

theorem State.restartPipe_inv {marked : Bool} {slots : List DbgSlot} {s t : State}
    (h : State.restartPipe marked slots s = .next t) (hi : s.Inv) : t.Inv := by
  induction slots generalizing s with
  | nil => cases h; exact hi.congr rfl rfl rfl
  | cons p rest ih =>
    unfold State.restartPipe at h
    split at h
    · cases h; exact hi
    split at h
    · cases h
    dsimp only at h
    split at h
    · cases h
    split at h
    · cases h
    · cases h
    · next u he =>
      have hu := (State.watched_sameCore u s).inv (exec_inv he hi)
      split at h
      · cases h; exact hu.systemSpeedEnd
      split at h
      · cases h; exact hu.congr rfl rfl rfl
      · exact ih h hu

theorem State.restart_inv {s t : State} (h : s.restart = .next t) (hi : s.Inv) : t.Inv :=
  State.restartPipe_inv h (hi.congr rfl rfl rfl)

/-! ## The test access port -/

/-- A write of an EmbeddedICE register leaves the core: each arm changes the debug hardware or is refused. -/
theorem State.iceWrite_sameCore {s t : State} {a : BitVec 5} {v : Word} (h : s.iceWrite a v = .next t) : SameCore s t := by
  unfold State.iceWrite at h
  repeat' split at h
  all_goals cases h
  all_goals exact ⟨rfl, rfl, rfl, rfl, rfl, rfl, rfl⟩

/-- A read of an EmbeddedICE register leaves the core. -/
theorem State.iceRead_sameCore {s t : State} {a : BitVec 5} {v : Word} (h : s.iceRead a = some (v, t)) : SameCore s t := by
  unfold State.iceRead at h
  split at h
  · cases h; exact .refl s
  split at h
  · cases h; exact .refl s
  split at h
  · cases h; exact .drawn s
  split at h
  · cases h; exact ⟨rfl, rfl, rfl, rfl, rfl, rfl, rfl⟩
  split at h
  · obtain ⟨w, _, e⟩ := Option.map_eq_some_iff.mp h
    cases e; exact .refl s
  split at h
  · obtain ⟨w, _, e⟩ := Option.map_eq_some_iff.mp h
    cases e; exact .refl s
  · cases h

theorem State.updateChain2_sameCore {s t : State} (h : s.updateChain2 = .next t) : SameCore s t := by
  unfold State.updateChain2 at h
  dsimp only at h
  split at h
  · cases h; exact .refl s
  split at h
  · exact State.iceWrite_sameCore h
  split at h
  · cases h
  · next v u hr =>
    cases h
    exact (State.iceRead_sameCore hr).trans ⟨rfl, rfl, rfl, rfl, rfl, rfl, rfl⟩

theorem State.captureDr_sameCore {s t : State} (h : s.captureDr = .next t) : SameCore s t := by
  unfold State.captureDr at h
  split at h
  case h_4 => split at h <;> cases h <;> exact ⟨rfl, rfl, rfl, rfl, rfl, rfl, rfl⟩
  all_goals cases h; exact ⟨rfl, rfl, rfl, rfl, rfl, rfl, rfl⟩

theorem State.shiftDr_sameCore {s t : State} {tdi : Bool} (h : s.shiftDr tdi = .next t) : SameCore s t := by
  unfold State.shiftDr at h
  dsimp only at h
  split at h <;> cases h <;> exact ⟨rfl, rfl, rfl, rfl, rfl, rfl, rfl⟩

theorem State.updateDr_sameCore {s t : State} (h : s.updateDr = .next t) : SameCore s t := by
  unfold State.updateDr at h
  split at h
  case h_1 =>
    split at h
    · cases h
    · cases h; exact ⟨rfl, rfl, rfl, rfl, rfl, rfl, rfl⟩
  case h_2 => exact State.updateChain2_sameCore h
  all_goals cases h; exact .refl s

theorem State.updateIr_sameCore {s t : State} (h : s.updateIr = .next t) : SameCore s t := by
  unfold State.updateIr at h
  split at h
  · cases h
  · cases h; exact ⟨rfl, rfl, rfl, rfl, rfl, rfl, rfl⟩

/-- The captures and shifts leave the core. -/
theorem State.tapAct_sameCore {s t : State} {tdi : Bool} (h : s.tapAct tdi = .next t) : SameCore s t := by
  unfold State.tapAct at h
  split at h
  case h_1 => exact State.captureDr_sameCore h
  case h_2 => exact State.shiftDr_sameCore h
  all_goals cases h; exact ⟨rfl, rfl, rfl, rfl, rfl, rfl, rfl⟩

/-- In RUN-TEST-IDLE the core may be clocked or restarted. -/
theorem State.idle_inv {s t : State} {q : TapState} (h : s.idle q = .next t) (hi : s.Inv) : t.Inv := by
  unfold State.idle at h
  dsimp only at h
  split at h
  · split at h
    · exact State.debugClock_inv h (hi.congr rfl rfl rfl)
    · cases h
  split at h
  · exact State.restart_inv h (hi.congr rfl rfl rfl)
  · cases h; exact hi.congr rfl rfl rfl

theorem State.tapEnter_inv {s t : State} {q : TapState} (h : s.tapEnter q = .next t) (hi : s.Inv) : t.Inv := by
  unfold State.tapEnter at h
  split at h
  case h_1 => cases h; exact hi.congr rfl rfl rfl
  case h_2 => exact State.idle_inv h hi
  case h_3 => exact (State.updateDr_sameCore h).inv hi
  case h_4 => exact (State.updateIr_sameCore h).inv hi
  all_goals cases h; exact hi

theorem State.tck_inv {s t : State} {tms tdi : Bool} (h : s.tck tms tdi = .next t) (hi : s.Inv) : t.Inv := by
  unfold State.tck at h
  split at h
  · cases h
  · cases h
  · next u hu =>
    have hs : SameCore s s.synchronised := ⟨rfl, rfl, rfl, rfl, rfl, rfl, rfl⟩
    exact State.tapEnter_inv h (((hs.trans (State.tapAct_sameCore hu)).inv hi).congr rfl rfl rfl)

/-! ## The step of the machine -/

theorem State.applied_inv {s t : State} {e : Event} (h : s.applied e = .next t) (hi : s.Inv) : t.Inv := by
  cases e with
  | run => exact State.coreStep_inv h hi
  | reset cycles after => exact State.resetEvent_inv h hi
  | tck tms tdi => exact State.tck_inv h (hi.congr rfl rfl rfl)
  | pins | memory | answers | nTrst => cases h; exact hi.congr rfl rfl rfl

/-- With an empty script a step is a step of the core. -/
theorem step_of_empty_script {s : State} (h : s.script = []) : step s = s.coreStep := by
  unfold step
  rw [h]

theorem step_inv {s t : State} (h : step s = .next t) (hi : s.Inv) : t.Inv := by
  unfold step at h
  split at h
  · exact State.coreStep_inv h hi
  · exact State.applied_inv h (hi.congr rfl rfl rfl)

end Sys2Proof.Machine
end

section
/-! PROOFS. The statements about the state: the invariant, User mode, the boundary of a step, reset, and the stopped core. -/

namespace Sys2Proof.Proofs

open Sys2Proof Sys2Proof.Machine Sys2Proof.Claims

/-! ## The invariant -/

/-- Settles O6. -/
theorem invariantAtReset : Obligations.InvariantAtReset := by
  unfold Obligations.InvariantAtReset
  exact ⟨State.reset_mem_wf, State.reset.pcAligned_iff.mpr rfl⟩

/-- Settles O7: the core keeps the invariant because every micro-operation and every stop at the boundary does, the debugger because
it runs instructions on the same core, and reset because it starts at address 0. -/
theorem stepKeepsTheInvariant : Obligations.StepKeepsTheInvariant := by
  unfold Obligations.StepKeepsTheInvariant
  intro s t hi h
  exact step_inv h hi

/-! ## User mode -/

/-- An exception entry is at the vector of the exception, in its mode, in ARM state, with I set. -/
theorem takeException_entry (u : State) (e : Exc) :
    (u.takeException e).cpsr.m = e.mode.bits ∧ (u.takeException e).pc = e.vector ∧ (u.takeException e).cpsr.t = false ∧
      (u.takeException e).cpsr.i = true := by
  refine ⟨rfl, ?_, rfl, rfl⟩
  rw [State.takeException_pc]
  cases e <;> rfl

/-- Settles O9: a step of the core stops at the boundary or runs an instruction, and either keeps the mode or enters
an exception. -/
theorem userModeIsLeftOnlyByAnException : Obligations.UserModeIsLeftOnlyByAnException := by
  unfold Obligations.UserModeIsLeftOnlyByAnException
  intro s t hm hd hs h
  rw [step_of_empty_script hs] at h
  rcases State.coreStep_cases h with hstop | ⟨i, u, v, hu, he, hv⟩
  · cases hstop with
    | quiet g => exact .inl (by rw [g.cpsr, hm])
    | exception g e => exact .inr ⟨e, takeException_entry _ e⟩
    | enterDebug g k b => exact .inl (by rw [State.enterDebug_cpsr, g.cpsr, hm])
    | skips g => exact .inl (by rw [g.cpsr, hm])
  · rw [hv.cpsr, hv.pc]
    rcases exec_user he (by rw [hu.cpsr]; exact hm) (hu.inDebug.trans hd) with hf | ⟨w, e, rfl⟩
    · exact .inl hf.m
    · exact .inr ⟨e, takeException_entry w e⟩

/-- Settles O10: the micro-operations of an instruction in User mode keep the privileged state, and an exception entry would leave
User mode. -/
theorem userModeCannotTouchPrivilegedState : Obligations.UserModeCannotTouchPrivilegedState := by
  unfold Obligations.UserModeCannotTouchPrivilegedState
  intro i s t hm hd h ht
  rcases exec_user h hm hd with hf | ⟨u, e, rfl⟩
  · exact ⟨hf.i, hf.f, hf.spsr, hf.regs⟩
  · exact absurd ht e.mode_bits_ne_user

/-! ## The step -/

/-- With the debug logic disabled a bus cycle is not compared. -/
theorem observeAll_of_disabled (xs : List BusAccess) {s : State} (h : s.env.params.dbgen = false) :
    State.observeAll xs s = (false, s) := by
  induction xs with
  | nil => rfl
  | cons x xs ih => simp [State.observeAll, State.observe, h, ih]

/-- With the debug logic disabled an instruction is all that its step does. -/
theorem runInstruction_of_disabled (i : Instr) {s : State} (h : s.env.params.dbgen = false) : s.runInstruction i = exec i s := by
  unfold State.runInstruction
  cases e : exec i s with
  | next t =>
    have ht : t.env.params.dbgen = false := by rw [(exec_sameSetting e).params, h]
    simp [State.watched, observeAll_of_disabled _ ht]
  | fault f => rfl
  | refused r => rfl

/-- A fetch that finds memory gives the bytes there and leaves its record. -/
theorem fetch_of_fetchable {s : State} (h : Fetchable s) :
    s.fetch = .ok (s.mem.value s.env.params.bigend s.fetchSize s.pc)
      (s.logged (s.access s.pc s.fetchSize .fetch s.fetchPriv false (s.mem.word s.env.params.bigend (Size.word.align s.pc)) false
        false)) := by
  obtain ⟨ha, hr⟩ := h
  rcases hr with hr | hr <;> simp [State.fetch, ha, State.readValue, State.isDevice, hr]

/-- What the boundary comes to where nothing stops the core: the instruction that waits, or the one that is fetched. -/
theorem reach_of_atBoundary {s : State} (h : AtBoundary s) (hd : s.env.params.dbgen = false) :
    (∀ i, s.waiting = some i → s.reach = .executes i { s with dbg := { s.dbg with entered := false } }) ∧
    (s.waiting = none → s.reach = State.fetchAndDecode { s with dbg := { s.dbg with entered := false } }) := by
  obtain ⟨_, hin, hm, hfiq, hirq⟩ := h
  have hi : s.ifen = true := by simp [State.ifen, hd]
  have hf : ¬ s.fiqTaken = true := by rcases hfiq with h | h | h <;> simp_all [State.fiqTaken]
  have hq : ¬ s.irqTaken = true := by rcases hirq with h | h | h <;> simp_all [State.irqTaken]
  have hw : ¬ (s.env.params.dbgen && (s.dbg.watchHit || s.dbgrqi)) = true := by simp [hd]
  unfold State.reach
  rw [if_neg (by simp [hin]), if_neg hm, if_neg hf, if_neg hq, if_neg hw]
  dsimp only
  constructor
  · intro i hwait
    split
    · next j hj => cases hwait.symm.trans hj; rfl
    · next hj => cases hwait.symm.trans hj
  · intro hwait
    split
    · next j hj => cases hwait.symm.trans hj
    · rfl

/-- With the debug logic disabled an instruction that is fetched and decodes is reached, and the record of its fetch
alone is added. -/
theorem fetchAndDecode_of_fetchable {s : State} {i : Instr} (hf : Fetchable s) (hd : s.env.params.dbgen = false)
    (hdec : decode s.cpsr.t (s.mem.value s.env.params.bigend s.fetchSize s.pc) = .ok i) :
    s.fetchAndDecode = .executes i
      (s.logged (s.access s.pc s.fetchSize .fetch s.fetchPriv false (s.mem.word s.env.params.bigend (Size.word.align s.pc)) false
        false)) := by
  rw [State.fetchAndDecode, fetch_of_fetchable hf]
  dsimp only
  rw [observeAll_of_disabled _ (by exact hd), hdec]
  rfl

/-- Settles O4: the boundary reaches the instruction, and with the debug logic disabled nothing is added to its own effect. -/
theorem stepRunsTheDecodedInstruction : Obligations.StepRunsTheDecodedInstruction := by
  unfold Obligations.StepRunsTheDecodedInstruction
  intro s i hb hd
  have hreach := reach_of_atBoundary (s := s.fresh) hb hd
  have hstep : ∀ u, u.env.params.dbgen = false → s.fresh.reach = .executes i u → step s = exec i u := by
    intro u hu hr
    rw [step_of_empty_script hb.1, State.coreStep, hr]
    exact runInstruction_of_disabled i hu
  refine ⟨fun hw hf hdec => hstep (fetched s) hd ?_, fun hw => hstep _ hd (hreach.1 i hw)⟩
  rw [hreach.2 hw]
  exact fetchAndDecode_of_fetchable (s := { s.fresh with dbg := { s.dbg with entered := false } }) hf hd hdec

/-- Settles O56. -/
theorem stoppedCore : Obligations.StoppedCore := by
  unfold Obligations.StoppedCore
  intro s hs h
  have hr : s.fresh.reach = .stops (.next s.fresh) := by
    unfold State.reach
    split
    · rfl
    · next hd =>
      exact if_pos (h.resolve_left hd)
  rw [step_of_empty_script hs, State.coreStep, hr]
  rfl

/-! ## Reset -/

/-- Settles O11. -/
theorem resetState : Obligations.ResetState := by
  unfold Obligations.ResetState
  refine ⟨⟨rfl, rfl, rfl, rfl, rfl⟩, fun s cycles hc => ⟨s.fresh.warmReset, ?_, ?_⟩⟩
  · rw [State.resetEvent, if_neg (by omega)]
  · exact ⟨rfl, rfl, rfl, rfl, rfl, rfl, rfl, rfl, rfl, rfl, rfl, rfl⟩

end Sys2Proof.Proofs
end

section
/-! PROOFS. Facts about status register words, MSR, and the EmbeddedICE registers. -/

namespace Sys2Proof.Machine

/-! ## Status register words -/

/-- The word of a status register as its parts in a row, the widths written out. -/
theorem Psr.toWord_eq (p : Psr) :
    p.toWord = (BitVec.ofBool p.n ++ BitVec.ofBool p.z ++ BitVec.ofBool p.c ++ BitVec.ofBool p.v ++ p.reserved ++
      BitVec.ofBool p.i ++ BitVec.ofBool p.f ++ BitVec.ofBool p.t ++ p.m : BitVec (1 + 1 + 1 + 1 + 20 + 1 + 1 + 1 + 5)) := rfl

theorem Psr.toWord_bits (p : Psr) :
    p.toWord.getLsbD 31 = p.n ∧ p.toWord.getLsbD 30 = p.z ∧ p.toWord.getLsbD 29 = p.c ∧ p.toWord.getLsbD 28 = p.v ∧
      p.toWord.getLsbD 7 = p.i ∧ p.toWord.getLsbD 6 = p.f ∧ p.toWord.getLsbD 5 = p.t := by
  have h (k : Nat) := congrArg (BitVec.getLsbD · k) p.toWord_eq
  simp only [BitVec.getLsbD_append, BitVec.getLsbD_ofBool] at h
  simp [h, -BitVec.getLsbD_eq_getElem]

theorem Psr.toWord_reserved (p : Psr) : p.toWord.extractLsb' 8 20 = p.reserved := by
  refine (congrArg (BitVec.extractLsb' 8 20) p.toWord_eq).trans ?_
  rw [BitVec.extractLsb'_append_eq_of_le (by decide), BitVec.extractLsb'_append_eq_of_le (by decide),
    BitVec.extractLsb'_append_eq_of_le (by decide), BitVec.extractLsb'_append_eq_of_le (by decide)]
  exact BitVec.extractLsb'_append_eq_right

theorem Psr.toWord_m (p : Psr) : p.toWord.extractLsb' 0 5 = p.m := BitVec.extractLsb'_append_eq_right

/-! ## The reserved bits that MSR may not change -/

/-- The field mask bit that selects a reserved bit: `f` the upper four, `s` the next eight, `x` the lower eight. -/
theorem getLsbD_reservedMask : ∀ (mask : BitVec 4), ∀ k < 20,
    (reservedMask mask).getLsbD k = mask.getLsbD (if 16 ≤ k then 3 else if 8 ≤ k then 2 else 1) := by decide

/-- A field of a word is zero where its bits are. -/
theorem extractLsb'_eq_zero_iff {w : Nat} (x : BitVec w) (start len : Nat) :
    x.extractLsb' start len = 0#len ↔ ∀ k < len, x.getLsbD (start + k) = false := by
  constructor
  · intro h k hk
    have hb := congrArg (BitVec.getLsbD · k) h
    simpa [BitVec.getLsbD_extractLsb', hk, -BitVec.getLsbD_eq_getElem] using hb
  · intro h
    refine BitVec.eq_of_getLsbD_eq fun k hk => ?_
    simp [BitVec.getLsbD_extractLsb', hk, h k hk, -BitVec.getLsbD_eq_getElem]

/-- A field of a field is a field of the word. -/
theorem extractLsb'_extractLsb'_of_le {w : Nat} (x : BitVec w) {a n start len : Nat} (h : start + len ≤ n) :
    (x.extractLsb' a n).extractLsb' start len = x.extractLsb' (a + start) len := by
  refine BitVec.eq_of_getLsbD_eq fun k hk => ?_
  have hn : start + k < n := by omega
  simp only [BitVec.getLsbD_extractLsb', hk, hn, decide_true, Bool.true_and, Nat.add_assoc]

/-- What the mask selects of the reserved bits is zero where each selected field is. -/
theorem and_reservedMask_eq_zero_iff (x : BitVec 20) (mask : BitVec 4) :
    x &&& reservedMask mask = 0#20 ↔
      (mask.getLsbD 3 = true → x.extractLsb' 16 4 = 0#4) ∧ (mask.getLsbD 2 = true → x.extractLsb' 8 8 = 0#8) ∧
        (mask.getLsbD 1 = true → x.extractLsb' 0 8 = 0#8) := by
  simp only [extractLsb'_eq_zero_iff]
  constructor
  · intro h
    have hb : ∀ k < 20, mask.getLsbD (if 16 ≤ k then 3 else if 8 ≤ k then 2 else 1) = true → x.getLsbD k = false := by
      intro k hk hm
      have := congrArg (BitVec.getLsbD · k) h
      simpa [getLsbD_reservedMask mask k hk, hm, -BitVec.getLsbD_eq_getElem] using this
    refine ⟨fun hm k hk => hb _ (by omega) ?_, fun hm k hk => hb _ (by omega) ?_, fun hm k hk => hb _ (by omega) ?_⟩
    · rw [if_pos (by omega)]; exact hm
    · rw [if_neg (by omega), if_pos (by omega)]; exact hm
    · rw [if_neg (by omega), if_neg (by omega)]; exact hm
  · rintro ⟨h3, h2, h1⟩
    refine BitVec.eq_of_getLsbD_eq fun k hk => ?_
    rw [BitVec.getLsbD_and, getLsbD_reservedMask mask k hk, BitVec.getLsbD_zero, Bool.and_eq_false_iff, or_iff_not_imp_right]
    simp only [Bool.not_eq_false]
    split
    · intro hm; simpa [Nat.add_sub_cancel' ‹_›] using h3 hm (k - 16) (by omega)
    · split
      · intro hm; simpa [Nat.add_sub_cancel' ‹_›] using h2 hm (k - 8) (by omega)
      · intro hm; simpa using h1 hm k (by omega)

/-! ## The EmbeddedICE registers -/

/-- The addresses from 8 up are none of those of the control, the status and the communications channel registers. -/
theorem iceAddress_ne : ∀ a : BitVec 5, 8 ≤ a.toNat → a ≠ 0 ∧ a ≠ 1 ∧ a ≠ 4 ∧ a ≠ 5 := by decide

theorem State.iceRead_w0 (s : State) {a : BitVec 5} (ha : 8 ≤ a.toNat) (hu : a.extractLsb' 3 2 = 1) :
    s.iceRead a = (s.ice.w0.read (a.extractLsb' 0 3)).map (fun v => (v, s)) := by
  obtain ⟨h0, h1, h4, h5⟩ := iceAddress_ne a ha
  rw [State.iceRead, if_neg h0, if_neg h1, if_neg h4, if_neg h5, if_pos hu]

theorem State.iceRead_w1 (s : State) {a : BitVec 5} (ha : 8 ≤ a.toNat) (hu : a.extractLsb' 3 2 = 2) :
    s.iceRead a = (s.ice.w1.read (a.extractLsb' 0 3)).map (fun v => (v, s)) := by
  obtain ⟨h0, h1, h4, h5⟩ := iceAddress_ne a ha
  rw [State.iceRead, if_neg h0, if_neg h1, if_neg h4, if_neg h5, if_neg (by rw [hu]; decide), if_pos hu]

theorem State.iceWrite_w0 (s : State) {a : BitVec 5} {v : Word} {w : Watch} (ha : 8 ≤ a.toNat) (hu : a.extractLsb' 3 2 = 1)
    (h : s.ice.w0.write (a.extractLsb' 0 3) v = some w) :
    s.iceWrite a v =
      if s.mayProgram s.ice.w0 w then .next { s with ice := { s.ice with w0 := w } } else .refused .watchProgramming := by
  obtain ⟨h0, h1, h4, h5⟩ := iceAddress_ne a ha
  rw [State.iceWrite, if_neg h0, if_neg h1, if_neg h4, if_neg h5, if_pos hu, h]

theorem State.iceWrite_w1 (s : State) {a : BitVec 5} {v : Word} {w : Watch} (ha : 8 ≤ a.toNat) (hu : a.extractLsb' 3 2 = 2)
    (h : s.ice.w1.write (a.extractLsb' 0 3) v = some w) :
    s.iceWrite a v =
      if s.mayProgram s.ice.w1 w then .next { s with ice := { s.ice with w1 := w } } else .refused .watchProgramming := by
  obtain ⟨h0, h1, h4, h5⟩ := iceAddress_ne a ha
  rw [State.iceWrite, if_neg h0, if_neg h1, if_neg h4, if_neg h5, if_neg (by rw [hu]; decide), if_pos hu, h]

/-- A watchpoint unit has six registers. -/
theorem watchRegister_cases : ∀ k : BitVec 3, k.toNat ≤ 5 →
    k = 0#3 ∨ k = 1#3 ∨ k = 2#3 ∨ k = 3#3 ∨ k = 4#3 ∨ k = 5#3 := by decide

/-- The register of a watchpoint unit with the number `k`, as a word. -/
def Watch.register (w : Watch) (k : BitVec 3) : Word :=
  match k.toNat with
  | 0 => w.addrValue
  | 1 => w.addrMask
  | 2 => w.dataValue
  | 3 => w.dataMask
  | 4 => w.ctlValue.setWidth 32
  | _ => w.ctlMask.setWidth 32

/-- A watchpoint unit whose register with the number `k` has been written. -/
def Watch.withRegister (w : Watch) (k : BitVec 3) (v : Word) : Watch :=
  match k.toNat with
  | 0 => { w with addrValue := v }
  | 1 => { w with addrMask := v }
  | 2 => { w with dataValue := v }
  | 3 => { w with dataMask := v }
  | 4 => { w with ctlValue := v.extractLsb' 0 9, chainOut := false }
  | _ => { w with ctlMask := v.extractLsb' 0 8 }

theorem Watch.read_of_le (w : Watch) {k : BitVec 3} (h : k.toNat ≤ 5) : w.read k = some (w.register k) := by
  rcases watchRegister_cases k h with rfl | rfl | rfl | rfl | rfl | rfl <;> rfl

theorem Watch.write_of_le (w : Watch) {k : BitVec 3} (h : k.toNat ≤ 5) (v : Word) : w.write k v = some (w.withRegister k v) := by
  have hw : ∀ n ≤ 32, v.extractLsb' 0 n = v.setWidth n := fun n hn => (BitVec.setWidth_eq_extractLsb' hn).symm
  rcases watchRegister_cases k h with rfl | rfl | rfl | rfl | rfl | rfl
  case inr.inr.inr.inr.inl => rw [Watch.withRegister, hw 9 (by decide)]; rfl
  case inr.inr.inr.inr.inr => rw [Watch.withRegister, hw 8 (by decide)]; rfl
  all_goals rfl

/-- The numbers that are no register of a watchpoint unit. -/
theorem watchRegister_ne : ∀ k : BitVec 3, 5 < k.toNat →
    k ≠ 0 ∧ k ≠ 1 ∧ k ≠ 2 ∧ k ≠ 3 ∧ k ≠ 4 ∧ k ≠ 5 := by decide

theorem Watch.read_of_gt (w : Watch) {k : BitVec 3} (h : 5 < k.toNat) : w.read k = none := by
  obtain ⟨h0, h1, h2, h3, h4, h5⟩ := watchRegister_ne k h
  rw [Watch.read, if_neg h0, if_neg h1, if_neg h2, if_neg h3, if_neg h4, if_neg h5]

theorem Watch.write_of_gt (w : Watch) {k : BitVec 3} (h : 5 < k.toNat) (v : Word) : w.write k v = none := by
  obtain ⟨h0, h1, h2, h3, h4, h5⟩ := watchRegister_ne k h
  rw [Watch.write, if_neg h0, if_neg h1, if_neg h2, if_neg h3, if_neg h4, if_neg h5]

/-- An address that is none of the first registers', and of a unit only where the unit has no such register, is refused and reads as
none. -/
theorem State.ice_refused (s : State) (v : Word) {a : BitVec 5} (hne : a ≠ 0 ∧ a ≠ 1 ∧ a ≠ 4 ∧ a ≠ 5)
    (hgt : a.extractLsb' 3 2 = 1 ∨ a.extractLsb' 3 2 = 2 → 5 < (a.extractLsb' 0 3).toNat) :
    s.iceWrite a v = .refused .iceAddress ∧ s.iceRead a = none := by
  obtain ⟨h0, h1, h4, h5⟩ := hne
  rw [State.iceWrite, if_neg h0, if_neg h1, if_neg h4, if_neg h5, State.iceRead, if_neg h0, if_neg h1, if_neg h4, if_neg h5]
  by_cases hu0 : a.extractLsb' 3 2 = 1
  · rw [if_pos hu0, if_pos hu0, Watch.write_of_gt _ (hgt (.inl hu0)), Watch.read_of_gt _ (hgt (.inl hu0))]
    exact ⟨rfl, rfl⟩
  rw [if_neg hu0, if_neg hu0]
  by_cases hu1 : a.extractLsb' 3 2 = 2
  · rw [if_pos hu1, if_pos hu1, Watch.write_of_gt _ (hgt (.inr hu1)), Watch.read_of_gt _ (hgt (.inr hu1))]
    exact ⟨rfl, rfl⟩
  · rw [if_neg hu1, if_neg hu1]
    exact ⟨rfl, rfl⟩

/-- The addresses of watchpoint unit 0 and of unit 1, from the number of the register. -/
theorem watchAddress_spec : ∀ k : BitVec 3,
    (8 ≤ (1#2 ++ k : BitVec 5).toNat ∧ (1#2 ++ k : BitVec 5).extractLsb' 3 2 = 1 ∧
      (1#2 ++ k : BitVec 5).extractLsb' 0 3 = k) ∧
    (8 ≤ (2#2 ++ k : BitVec 5).toNat ∧ (2#2 ++ k : BitVec 5).extractLsb' 3 2 = 2 ∧
      (2#2 ++ k : BitVec 5).extractLsb' 0 3 = k) := by decide

/-- Every address that the spec does not list. -/
theorem unlistedAddress_spec : ∀ a : BitVec 5, a.toNat ∉ [0, 1, 4, 5, 8, 9, 10, 11, 12, 13, 16, 17, 18, 19, 20, 21] →
    (a ≠ 0 ∧ a ≠ 1 ∧ a ≠ 4 ∧ a ≠ 5) ∧
      (a.extractLsb' 3 2 = 1 ∨ a.extractLsb' 3 2 = 2 → 5 < (a.extractLsb' 0 3).toNat) := by decide

end Sys2Proof.Machine
end

section
/-! PROOFS. The statements about registers, status registers and the EmbeddedICE registers. -/

namespace Sys2Proof.Proofs

open Sys2Proof Sys2Proof.Machine Sys2Proof.Claims

/-- Settles O12. -/
theorem registerBanks : Obligations.RegisterBanks := by
  unfold Obligations.RegisterBanks
  intro m n s pcv
  have hset := s.regs.get_set
  refine ⟨rfl, ?_⟩
  cases m with
  | usr | irq | svc | abt | und | sys =>
    exact ⟨rfl, rfl, rfl, rfl, rfl, rfl, rfl, rfl, fun _ => ⟨rfl, rfl, rfl, rfl, rfl⟩, nofun, rfl, rfl, rfl, hset, rfl⟩
  | fiq =>
    exact ⟨rfl, rfl, rfl, rfl, rfl, rfl, rfl, rfl, fun h => absurd rfl h, fun _ => ⟨rfl, rfl, rfl, rfl, rfl⟩, rfl,
      rfl, rfl, hset, rfl⟩

/-- Settles O29. -/
theorem statusRegisterLayout : Obligations.StatusRegisterLayout := by
  unfold Obligations.StatusRegisterLayout
  intro p
  obtain ⟨hn, hz, hc, hv, hi, hf, ht⟩ := p.toWord_bits
  have hm : p.toWord.setWidth 5 = p.m := (BitVec.setWidth_eq_extractLsb' (by decide)).trans p.toWord_m
  refine ⟨hn, hz, hc, hv, p.toWord_reserved, hi, hf, ht, p.toWord_m, ?_⟩
  simp only [Psr.ofWord, hn, hz, hc, hv, p.toWord_reserved, hi, hf, ht, hm]

/-! ## MSR -/

theorem keepsReserved_some (mask : BitVec 4) (v : Word) (r : BitVec 20) :
    KeepsReserved mask v (some r) ↔ HasReserved mask v r := decide_eq_true_iff

/-- The model refuses a change of reserved bits exactly where the statement's fields differ from those last read. -/
theorem changesReserved_iff (last : Option (BitVec 20)) (mask : BitVec 4) (v : Word) :
    changesReserved last mask v = true ↔ ¬ KeepsReserved mask v last := by
  cases last with
  | none => simp [changesReserved]
  | some r =>
    have hx : ∀ start len, start + len ≤ 20 →
        ((v.extractLsb' 8 20 ^^^ r).extractLsb' start len = 0#len ↔ v.extractLsb' (8 + start) len = r.extractLsb' start len) := by
      intro start len hl
      rw [BitVec.extractLsb'_xor, BitVec.xor_eq_zero_iff, extractLsb'_extractLsb'_of_le v hl]
    rw [keepsReserved_some, changesReserved, decide_eq_true_eq, Ne, and_reservedMask_eq_zero_iff, hx 16 4 (by decide),
      hx 8 8 (by decide), hx 0 8 (by decide)]

/-- What an MSR executes: the operation, on the begun state. -/
theorem exec_of_msrForm {i : Instr} {r : Bool} {mask : BitVec 4} {reads : List Reg} {v : Word} {s : State}
    (h : msrForm s i = some (r, mask, reads, v)) (hr : Runs i reads s) : exec i s = msr r mask v s.begun := by
  obtain ⟨_, hm, hv, hc, hz⟩ := hr
  have hres := restriction_of_violation hv
  cases i with
  | msrReg cond r' mask' rm =>
    cases h
    rw [exec, execMsrReg]
    exact runArm_of _ hm hc hres hz
  | msrImm cond r' mask' rot imm =>
    cases h
    rw [exec, execMsrImm]
    exact runArm_of _ hm hc hres hz
  | _ => cases h

/-- Settles O31. -/
theorem msrStops : Obligations.MsrStops := by
  unfold Obligations.MsrStops
  intro i mask reads v s hr
  have hmask : s.begun.effectiveMask mask = cpsrMask s mask := rfl
  refine ⟨fun h hc ht => ?_, fun h ht hk => ?_, fun h hs hk => ?_, fun h hs => ?_⟩ <;> rw [exec_of_msrForm h hr, msr]
  · rw [if_neg Bool.false_ne_true]
    dsimp only
    rw [hmask]
    exact if_pos ⟨hc, ht⟩
  · rw [if_neg Bool.false_ne_true]
    dsimp only
    rw [hmask, if_neg (fun hn => hn.2 (ht hn.1))]
    exact if_pos ((changesReserved_iff _ _ _).mpr hk)
  · rw [if_pos rfl]
    obtain ⟨p, hp⟩ := Option.ne_none_iff_exists'.mp hs
    rw [State.mode_begun, State.begun_spsr, hp]
    exact if_pos ((changesReserved_iff _ _ _).mpr hk)
  · rw [if_pos rfl, State.mode_begun, State.begun_spsr, hs]

/-! ## EmbeddedICE -/

/-- Settles O50. -/
theorem embeddedIceRegisterAccess : Obligations.EmbeddedIceRegisterAccess := by
  unfold Obligations.EmbeddedIceRegisterAccess
  intro s v
  have hw : ∀ n ≤ 32, v.setWidth n = v.extractLsb' 0 n := fun n hn => BitVec.setWidth_eq_extractLsb' hn
  refine ⟨⟨rfl, rfl, rfl, rfl⟩, ⟨rfl, ?_, rfl⟩, ⟨rfl, ?_⟩, fun k first hk => ?_, fun a ha => ?_⟩
  · rw [← hw 3 (by decide)]; rfl
  · rw [← hw 5 (by decide)]; rfl
  · obtain ⟨⟨h8, hu, hlow⟩, ⟨h8', hu', hlow'⟩⟩ := watchAddress_spec k
    cases first with
    | true =>
      have hread := s.iceRead_w0 h8 hu
      have hwrite : s.ice.w0.write ((1#2 ++ k).extractLsb' 0 3) v = some (s.ice.w0.withRegister k v) := by
        rw [hlow, Watch.write_of_le _ hk]
      rw [hlow, Watch.read_of_le _ hk] at hread
      exact ⟨hread, s.iceWrite_w0 h8 hu hwrite⟩
    | false =>
      have hread := s.iceRead_w1 h8' hu'
      have hwrite : s.ice.w1.write ((2#2 ++ k).extractLsb' 0 3) v = some (s.ice.w1.withRegister k v) := by
        rw [hlow', Watch.write_of_le _ hk]
      rw [hlow', Watch.read_of_le _ hk] at hread
      exact ⟨hread, s.iceWrite_w1 h8' hu' hwrite⟩
  · obtain ⟨hne, hgt⟩ := unlistedAddress_spec a ha
    exact s.ice_refused v hne hgt

end Sys2Proof.Proofs
end

section
/-! PROOFS. Facts about memory: words and halfwords as numbers, equality of canonical memories, aligned addresses, and what a store
and a row of stores leave. -/

namespace Sys2Proof.Machine

/-! ## Words and halfwords as numbers -/

/-- A row of bytes as a number. -/
theorem toNat_append_byte {n : Nat} (x : BitVec n) (b : Byte) : (x ++ b).toNat = 2^8 * x.toNat + b.toNat := by
  rw [BitVec.toNat_append, Nat.shiftLeft_eq, Nat.mul_comm, Nat.two_pow_add_eq_or_of_lt b.isLt]

theorem Memory.half_toNat (m : Memory) (a : Word) :
    (m.half false a).toNat = (m.byte a).toNat + 2^8 * (m.byte (a + 1)).toNat ∧
    (m.half true a).toNat = 2^8 * (m.byte a).toNat + (m.byte (a + 1)).toNat := by
  constructor
  · exact (toNat_append_byte _ _).trans (Nat.add_comm _ _)
  · exact toNat_append_byte _ _

theorem Memory.word_toNat (m : Memory) (a : Word) :
    (m.word false a).toNat =
      (m.byte a).toNat + 2^8 * (m.byte (a + 1)).toNat + 2^16 * (m.byte (a + 2)).toNat + 2^24 * (m.byte (a + 3)).toNat ∧
    (m.word true a).toNat =
      2^24 * (m.byte a).toNat + 2^16 * (m.byte (a + 1)).toNat + 2^8 * (m.byte (a + 2)).toNat + (m.byte (a + 3)).toNat := by
  have h (b0 b1 b2 b3 : Byte) : (b3 ++ b2 ++ b1 ++ b0 : Word).toNat =
      b0.toNat + 2^8 * b1.toNat + 2^16 * b2.toNat + 2^24 * b3.toNat := by
    have h3 := toNat_append_byte (b3 ++ b2 ++ b1) b0
    have h2 := toNat_append_byte (b3 ++ b2) b1
    have h1 := toNat_append_byte b3 b2
    omega
  constructor
  · exact h ..
  · refine (h ..).trans ?_
    omega

/-! ## Canonical memories -/

/-- The first cell of a canonical memory is in range and listed, and the rest is canonical above it. -/
theorem Memory.wfFrom_cons {lo k : Nat} {b : Byte} {rest : Memory} (h : Memory.wfFrom lo ((k, b) :: rest) = true) :
    lo ≤ k ∧ k < 2^32 ∧ b ≠ Config.unlistedByte ∧ Memory.wfFrom (k + 1) rest = true := by
  simpa only [Memory.wfFrom, Bool.and_eq_true, decide_eq_true_eq, and_assoc] using h

theorem Memory.read_cons_self (k : Nat) (b : Byte) (rest : Memory) : Memory.read ((k, b) :: rest) k = b := if_pos rfl

/-- Of two canonical memories with equal bytes neither begins first: below its first cell a memory reads as unlisted. -/
theorem Memory.first_le_of_read_eq {lo k k' : Nat} {b b' : Byte} {rest rest' : Memory}
    (h : Memory.wfFrom lo ((k, b) :: rest) = true) (h' : Memory.wfFrom lo ((k', b') :: rest') = true)
    (he : ∀ a < 2^32, Memory.read ((k, b) :: rest) a = Memory.read ((k', b') :: rest') a) : k' ≤ k := by
  obtain ⟨_, hk, hb, _⟩ := Memory.wfFrom_cons h
  obtain ⟨_, hk', hb', hr'⟩ := Memory.wfFrom_cons h'
  by_contra hlt
  have hw' : Memory.wfFrom k' ((k', b') :: rest') = true := by
    simp only [Memory.wfFrom, le_refl, hk', hb', hr', decide_true, Bool.and_true, ne_eq, not_false_eq_true]
  have hread := he k hk
  rw [Memory.read_cons_self, Memory.read_below hw' (by omega)] at hread
  exact hb hread

/-- Canonical memories with equal bytes are equal, cell by cell. -/
theorem Memory.eq_of_wfFrom {lo : Nat} {m m' : Memory} (h : m.wfFrom lo = true) (h' : m'.wfFrom lo = true)
    (he : ∀ a < 2^32, m.read a = m'.read a) : m = m' := by
  induction m generalizing lo m' with
  | nil =>
    cases m' with
    | nil => rfl
    | cons c rest =>
      obtain ⟨_, hk, hb, _⟩ := Memory.wfFrom_cons h'
      exact absurd ((Memory.read_cons_self ..).symm.trans (he c.1 hk).symm) hb
  | cons c rest ih =>
    obtain ⟨k, b⟩ := c
    obtain ⟨_, hk, hb, hr⟩ := Memory.wfFrom_cons h
    cases m' with
    | nil => exact absurd ((Memory.read_cons_self ..).symm.trans (he k hk)) hb
    | cons c' rest' =>
      obtain ⟨k', b'⟩ := c'
      obtain ⟨_, _, _, hr'⟩ := Memory.wfFrom_cons h'
      obtain rfl : k = k' :=
        Nat.le_antisymm (Memory.first_le_of_read_eq h' h fun a ha => (he a ha).symm) (Memory.first_le_of_read_eq h h' he)
      have hbb : b = b' := by simpa only [Memory.read_cons_self] using he k hk
      have hrest : rest = rest' := by
        refine ih hr hr' fun a ha => ?_
        by_cases hak : a < k + 1
        · rw [Memory.read_below hr hak, Memory.read_below hr' hak]
        · have hread := he a ha
          rwa [Memory.read, if_neg (by omega), Memory.read, if_neg (by omega)] at hread
      rw [hbb, hrest]

/-! ## Aligned addresses -/

/-- The memory system drops the two low bits of the address of a word. -/
theorem Size.align_word (a : Word) : Size.word.align a = BitVec.ofNat 32 (a.toNat / 4 * 4) := by
  have hmask : ∀ k < 32, (0xFFFFFFFC#32).getLsbD k = decide (2 ≤ k) := by decide
  have hshift : Size.word.align a = (a >>> 2) <<< 2 := by
    refine BitVec.eq_of_getLsbD_eq fun k hk => ?_
    rw [Size.align, BitVec.getLsbD_and, hmask k hk, BitVec.getLsbD_shiftLeft, BitVec.getLsbD_ushiftRight]
    by_cases h2 : 2 ≤ k
    · rw [Nat.add_sub_cancel' h2]
      simp only [h2, hk, decide_true, Nat.not_lt_of_le h2, decide_false, Bool.not_false, Bool.and_true, Bool.true_and]
    · simp only [h2, Nat.lt_of_not_le h2, decide_false, decide_true, Bool.not_true, Bool.and_false, Bool.false_and]
  rw [hshift, ← BitVec.toNat_inj, BitVec.toNat_shiftLeft, BitVec.toNat_ushiftRight, BitVec.toNat_ofNat, Nat.shiftRight_eq_div_pow,
    Nat.shiftLeft_eq]

theorem Size.toNat_align_word (a : Word) : (Size.word.align a).toNat = a.toNat / 4 * 4 := by
  rw [Size.align_word, BitVec.toNat_ofNat, Nat.mod_eq_of_lt (by omega)]

/-- The alignment of the words of a block is that of its first address. -/
theorem Size.align_word_add (a : Word) (k : Nat) :
    Size.word.align (a + BitVec.ofNat 32 (4 * k)) = Size.word.align a + BitVec.ofNat 32 (4 * k) := by
  rw [← BitVec.toNat_inj, Size.toNat_align_word, BitVec.toNat_add, BitVec.toNat_add, Size.toNat_align_word, BitVec.toNat_ofNat]
  omega

@[simp] theorem Size.align_word_align (z : Size) (a : Word) : Size.word.align (z.align a) = Size.word.align a := by
  cases z with
  | byte => rfl
  | half => simp only [Size.align, BitVec.and_assoc, BitVec.reduceAnd]
  | word => simp only [Size.align, BitVec.and_assoc, BitVec.reduceAnd]

theorem Size.align_of_aligned {z : Size} {a : Word} (h : z.aligned a = true) : z.align a = a := by
  simpa only [Size.aligned, decide_eq_true_eq] using h

/-- The words after the first are at the words of the address four on. -/
theorem add_four_add (a : Word) (k : Nat) : a + 4 + BitVec.ofNat 32 (4 * k) = a + BitVec.ofNat 32 (4 * (k + 1)) := by
  rw [BitVec.add_assoc, Nat.mul_succ, Nat.add_comm, BitVec.ofNat_add]
  rfl

/-- Addresses at different distances below 2^32 differ. -/
theorem add_ofNat_ne {j k : Nat} (hj : j < 2^32) (hk : k < 2^32) (h : j ≠ k) (a : Word) :
    a + BitVec.ofNat 32 j ≠ a + BitVec.ofNat 32 k := by
  intro e
  have := congrArg BitVec.toNat ((BitVec.add_right_inj a).mp e)
  rw [BitVec.toNat_ofNat, BitVec.toNat_ofNat, Nat.mod_eq_of_lt hj, Nat.mod_eq_of_lt hk] at this
  exact h this

/-! ## What a store leaves -/

theorem storeByte_toNat (big : Bool) (z : Size) (v : Word) (i : Nat) :
    (storeByte big z v i).toNat = v.toNat / 2^(8 * (if big then z.bytes - 1 - i else i)) % 2^8 := BitVec.toNat_ofNat ..

/-- The four bytes of a word, as a store lays them out, are the word. -/
theorem Memory.word_eq_of_bytes {m : Memory} {big : Bool} {a v : Word}
    (h : ∀ i < 4, m.byte (a + BitVec.ofNat 32 i) = storeByte big .word v i) : m.word big a = v := by
  have h0 : (m.byte a).toNat = _ := (congrArg (fun b => (m.byte b).toNat) a.add_zero.symm).trans
    (congrArg BitVec.toNat (h 0 (by decide)))
  have h1 : (m.byte (a + 1)).toNat = _ := congrArg BitVec.toNat (h 1 (by decide))
  have h2 : (m.byte (a + 2)).toNat = _ := congrArg BitVec.toNat (h 2 (by decide))
  have h3 : (m.byte (a + 3)).toNat = _ := congrArg BitVec.toNat (h 3 (by decide))
  obtain ⟨hl, hb⟩ := m.word_toNat a
  rw [← BitVec.toNat_inj]
  cases big with
  | false =>
    rw [hl, h0, h1, h2, h3]
    simp only [storeByte_toNat, Bool.false_eq_true, if_false]
    omega
  | true =>
    rw [hb, h0, h1, h2, h3]
    simp only [storeByte_toNat, Size.bytes, if_true]
    omega

/-- The two bytes of a halfword, as a store lays them out, are the low half of the value. -/
theorem Memory.half_eq_of_bytes {m : Memory} {big : Bool} {a v : Word}
    (h : ∀ i < 2, m.byte (a + BitVec.ofNat 32 i) = storeByte big .half v i) : m.half big a = v.setWidth 16 := by
  have h0 : (m.byte a).toNat = _ := (congrArg (fun b => (m.byte b).toNat) a.add_zero.symm).trans
    (congrArg BitVec.toNat (h 0 (by decide)))
  have h1 : (m.byte (a + 1)).toNat = _ := congrArg BitVec.toNat (h 1 (by decide))
  obtain ⟨hl, hb⟩ := m.half_toNat a
  rw [← BitVec.toNat_inj, BitVec.toNat_setWidth]
  cases big with
  | false =>
    rw [hl, h0, h1]
    simp only [storeByte_toNat, Bool.false_eq_true, if_false]
    omega
  | true =>
    rw [hb, h0, h1]
    simp only [storeByte_toNat, Size.bytes, if_true]
    omega

/-! ## A row of stored words -/

/-- Memory after words have been stored from an address up. -/
def Memory.storeWords (big : Bool) : List Word → Word → Memory → Memory
  | [], _, m => m
  | v :: vs, a, m => Memory.storeWords big vs (a + 4) (m.store big .word a v)

theorem Memory.storeWords_wf {m : Memory} (h : m.wf = true) (big : Bool) (vs : List Word) (a : Word) :
    (Memory.storeWords big vs a m).wf = true := by
  induction vs generalizing a m with
  | nil => exact h
  | cons v vs ih => exact ih (Memory.store_wf h ..) _

theorem Memory.byte_storeWords_other {m : Memory} (h : m.wf = true) (big : Bool) (vs : List Word) (a b : Word)
    (hb : ∀ k < 4 * vs.length, b ≠ a + BitVec.ofNat 32 k) : (Memory.storeWords big vs a m).byte b = m.byte b := by
  induction vs generalizing a m with
  | nil => rfl
  | cons v vs ih =>
    rw [List.length_cons] at hb
    rw [Memory.storeWords, ih (Memory.store_wf h ..), Memory.byte_store_other h]
    · exact fun i hi => hb i (by simp only [Size.bytes] at hi; omega)
    · intro k hk
      have := hb (4 + k) (by omega)
      rwa [BitVec.ofNat_add, ← BitVec.add_assoc] at this

/-- Each stored word reads back. -/
theorem Memory.word_storeWords {m : Memory} (h : m.wf = true) (big : Bool) (vs : List Word) (a : Word) (hl : 4 * vs.length < 2^32)
    {j : Nat} (hj : j < vs.length) : (Memory.storeWords big vs a m).word big (a + BitVec.ofNat 32 (4 * j)) = vs[j] := by
  induction vs generalizing a m j with
  | nil => cases hj
  | cons v vs ih =>
    rw [List.length_cons] at hl hj
    rw [Memory.storeWords]
    cases j with
    | zero =>
      refine Memory.word_eq_of_bytes fun i hi => ?_
      have hother : ∀ k < 4 * vs.length, a + BitVec.ofNat 32 i ≠ a + 4 + BitVec.ofNat 32 k := by
        intro k hk
        have := add_ofNat_ne (j := i) (k := 4 + k) (by omega) (by omega) (by omega) a
        rwa [BitVec.ofNat_add, ← BitVec.add_assoc] at this
      rw [Nat.mul_zero, BitVec.add_zero, Memory.byte_storeWords_other (Memory.store_wf h ..) big vs _ _ hother,
        Memory.byte_store h _ _ _ _ hi]
      rfl
    | succ j =>
      rw [← add_four_add]
      exact ih (Memory.store_wf h ..) _ (by omega) (by omega)

end Sys2Proof.Machine
end

section
/-! PROOFS. What a data access does where it finds memory, where it does not abort, and in the code window; and what a burst of
accesses does. -/

namespace Sys2Proof.Proofs

open Sys2Proof Sys2Proof.Machine Sys2Proof.Claims

/-! ## One access -/

/-- A read that finds memory delivers what memory holds, and leaves its record. -/
theorem dataRead_of_readable {s : State} {a : Word} {z : Size} {priv : Bool} (h : Readable s (z.align a) z priv) (lock : Bool) :
    s.dataRead a z priv lock =
      .ok (s.mem.value s.env.params.bigend z (z.align a)) { s with bus := s.bus ++ [readAccess s a z priv lock] } := by
  obtain ⟨hfeed, ha, hr⟩ := h
  have hv : s.readValue (z.align a) z = (s.mem.value s.env.params.bigend z (z.align a),
      s.mem.word s.env.params.bigend (Size.word.align a), s) := by
    rcases hr with hr | hr <;> rw [State.readValue, hr, Size.align_word_align]
  have hd : s.isDevice (z.align a) = false := by rcases hr with hr | hr <;> rw [State.isDevice, hr] <;> rfl
  simp only [State.dataRead, hfeed, ha, hv, hd]
  rfl

/-- A read that does not abort gives a value; only the count of free values, the answers of devices and the record change. -/
theorem dataRead_of_not_aborting {s : State} {a : Word} {z : Size} {priv : Bool} (hfeed : s.dbg.feed = none)
    (ha : s.env.aborting (z.align a).toNat z .read priv = false) (lock : Bool) :
    ∃ v t, s.dataRead a z priv lock = .ok v t ∧
      t = { s with free := t.free, env := { s.env with devIn := t.env.devIn }, bus := t.bus } := by
  have hv : (s.readValue (z.align a) z).2.2 = { s with
      free := (s.readValue (z.align a) z).2.2.free
      env := { s.env with devIn := (s.readValue (z.align a) z).2.2.env.devIn } } := by
    unfold State.readValue State.deviceRead
    split
    · split <;> rfl
    · rfl
    · rfl
  simp only [State.dataRead, hfeed, ha]
  refine ⟨_, _, rfl, ?_⟩
  rw [hv]
  rfl

/-- A write that finds storage stores, and leaves its record. -/
theorem dataWrite_of_writable {s : State} {a : Word} {z : Size} {priv : Bool} (h : Writable s (z.align a) z priv) (v : Word)
    (lock : Bool) :
    s.dataWrite a z v priv lock =
      .ok () { s with
        mem := s.mem.store s.env.params.bigend z (z.align a) v
        bus := s.bus ++ [writeAccess s a z v priv lock] } := by
  obtain ⟨hfeed, ha, hr, hw⟩ := h
  have hn : ¬ (s.inCodeWindow (z.align a) z = true ∧ s.dbg.inDebug = false) := by
    rintro ⟨hc, hd⟩
    rcases hw with hw | hw
    · exact Bool.false_ne_true (hd.symm.trans hw)
    · exact Bool.false_ne_true (hw.symm.trans hc)
  have hd : s.isDevice (z.align a) = false := by rw [State.isDevice, hr]; rfl
  have hs : s.stored (z.align a) z v = s.mem.store s.env.params.bigend z (z.align a) v := if_pos hr
  simp only [State.dataWrite, hfeed, ha, if_neg hn, hd, hs]
  rfl

/-- A write into the code window that does not abort is refused. -/
theorem dataWrite_of_codeWindow {s : State} {a : Word} {z : Size} {priv : Bool} (hfeed : s.dbg.feed = none)
    (hd : s.dbg.inDebug = false) (ha : s.env.aborting (z.align a).toNat z .write priv = false)
    (hw : s.inCodeWindow (z.align a) z = true) (v : Word) (lock : Bool) :
    s.dataWrite a z v priv lock = .refused .codeWindow := by
  simp only [State.dataWrite, hfeed, ha, Bool.false_eq_true, if_false, if_pos (And.intro hw hd)]

theorem inCodeWindow_iff {s : State} {a : Word} {z : Size} :
    s.inCodeWindow a z = true ↔ ∃ k < z.bytes, (a + BitVec.ofNat 32 k - (s.pc + s.len)).toNat < 2 * s.len.toNat := by
  simp only [State.inCodeWindow, List.any_eq_true, List.mem_range, decide_eq_true_eq]

/-- Memory after a store of a value, as the statements say it. -/
theorem stored_store {s : State} (h : s.mem.wf = true) (z : Size) (a v : Word) :
    Stored s z a v (s.mem.store s.env.params.bigend z a v) := by
  refine ⟨Memory.store_wf h .., ?_, fun b hb => Memory.byte_store_other h _ _ _ _ _ hb⟩
  have hbyte := fun i hi => Memory.byte_store h s.env.params.bigend z a v (i := i) hi
  cases z with
  | byte =>
    have h0 := hbyte 0 Nat.one_pos
    rw [BitVec.add_zero] at h0
    refine congrArg (BitVec.setWidth 32) (h0.trans ?_)
    rw [← BitVec.toNat_inj, storeByte_toNat, BitVec.toNat_setWidth]
    cases s.env.params.bigend <;> exact congrArg (· % 2^8) (Nat.div_one _)
  | half => exact congrArg (BitVec.setWidth 32) (Memory.half_eq_of_bytes hbyte)
  | word => exact Memory.word_eq_of_bytes hbyte

/-! ## Bursts -/

/-- A burst of reads that find memory delivers the words at the aligned addresses; only the record changes. -/
theorem readBurst_of_readable {s : State} {a : Word} {priv : Bool} {k : Nat}
    (h : ∀ j < k, Readable s (Size.word.align (a + BitVec.ofNat 32 (4 * j))) .word priv) :
    ∃ bus, State.readBurst priv k a s = .ok
      ((List.range k).map (fun j => s.mem.word s.env.params.bigend (Size.word.align (a + BitVec.ofNat 32 (4 * j)))), false,
        { s with bus := bus }) := by
  induction k generalizing a s with
  | zero => exact ⟨s.bus, rfl⟩
  | succ k ih =>
    have h0 := h 0 (Nat.succ_pos k)
    rw [Nat.mul_zero, BitVec.add_zero] at h0
    obtain ⟨bus, hb⟩ := ih (s := { s with bus := s.bus ++ [readAccess s a .word priv false] }) (a := a + 4) fun j hj => by
      rw [add_four_add]
      exact h (j + 1) (Nat.succ_lt_succ hj)
    refine ⟨bus, ?_⟩
    simp only [State.readBurst, dataRead_of_readable h0, hb, List.range_succ_eq_map, List.map_cons, List.map_map, Nat.mul_zero,
      BitVec.add_zero, add_four_add]
    rfl

/-- A burst of writes that find storage stores the words at the aligned addresses; besides only the record changes. -/
theorem writeBurst_of_writable {s : State} {a : Word} {priv : Bool} {vs : List Word}
    (h : ∀ j < vs.length, Writable s (Size.word.align (a + BitVec.ofNat 32 (4 * j))) .word priv) :
    ∃ bus, State.writeBurst priv vs a s = .ok
      (false, { s with mem := Memory.storeWords s.env.params.bigend vs (Size.word.align a) s.mem, bus := bus }) := by
  induction vs generalizing a s with
  | nil => exact ⟨s.bus, rfl⟩
  | cons v vs ih =>
    have h0 := h 0 (Nat.succ_pos _)
    rw [Nat.mul_zero, BitVec.add_zero] at h0
    have hnext : Size.word.align (a + 4) = Size.word.align a + 4 := Size.align_word_add a 1
    obtain ⟨bus, hb⟩ := ih (a := a + 4) (s := { s with
        mem := s.mem.store s.env.params.bigend .word (Size.word.align a) v
        bus := s.bus ++ [writeAccess s a .word v priv false] }) fun j hj => by
      rw [add_four_add]
      exact h (j + 1) (Nat.succ_lt_succ hj)
    refine ⟨bus, ?_⟩
    simp only [State.writeBurst, dataWrite_of_writable h0, hb, hnext]
    rfl

/-- A burst of writes of which one that does not abort is into the code window is refused. -/
theorem writeBurst_of_codeWindow {s : State} {a : Word} {priv : Bool} {vs : List Word} (hfeed : s.dbg.feed = none)
    (hd : s.dbg.inDebug = false)
    (h : ∃ j < vs.length, s.env.aborting (Size.word.align (a + BitVec.ofNat 32 (4 * j))).toNat .word .write priv = false ∧
      s.inCodeWindow (Size.word.align (a + BitVec.ofNat 32 (4 * j))) .word = true) :
    State.writeBurst priv vs a s = .error .codeWindow := by
  induction vs generalizing a s with
  | nil => obtain ⟨j, hj, _⟩ := h; cases hj
  | cons v vs ih =>
    obtain ⟨j, hj, ha, hw⟩ := h
    cases j with
    | zero =>
      rw [Nat.mul_zero, BitVec.add_zero] at ha hw
      simp only [State.writeBurst, dataWrite_of_codeWindow hfeed hd ha hw]
    | succ j =>
      have hrest : ∀ t, WriteFrame s t → State.writeBurst priv vs (a + 4) t = .error .codeWindow := by
        intro t f
        refine ih ?_ ?_ ⟨j, Nat.lt_of_succ_lt_succ hj, ?_⟩
        · rw [f.eq]; exact hfeed
        · rw [f.eq]; exact hd
        · rw [add_four_add, f.eq]; exact ⟨ha, hw⟩
      rcases s.dataWrite_cases a .word v priv false with ⟨t, e, f⟩ | ⟨t, e, f, _, _⟩ | e
      · simp only [State.writeBurst, e, hrest t f]
      · simp only [State.writeBurst, e, hrest t f]
      · simp only [State.writeBurst, e]

end Sys2Proof.Proofs
end

section
/-! PROOFS. Which effect the instructions of a family have: a single or block transfer, a swap, data processing; and an instruction
whose condition fails. -/

namespace Sys2Proof.Proofs

open Sys2Proof Sys2Proof.Machine Sys2Proof.Claims

/-! ## The gate -/

/-- An instruction with a condition field is an ARM instruction, and the gate tests that field. -/
theorem gateCond_of_cond {i : Instr} {c : Cond} (h : i.cond? = some c) : Instr.gateCond i = c := by
  cases i <;> cases h <;> rfl

theorem hazard_nil (s : State) : s.hazard [] = false := Bool.and_false _

/-- An instruction whose condition fails advances and does nothing else. -/
theorem exec_of_conditionFailed {i : Instr} {c : Cond} {s : State} (hc : i.cond? = some c) (hnv : c ≠ .nv)
    (hf : conditionPassed s.cpsr c = false) (hm : Mode.ofBits s.cpsr.m ≠ none) : exec i s = s.begun.advance := by
  obtain ⟨reads, effect, he⟩ := exec_gate i s
  rw [he, gateCond_of_cond hc]
  unfold runArm
  rw [if_neg hm, if_neg hnv, hf, if_neg Bool.false_ne_true]

/-! ## Data processing -/

/-- What an ARM data processing instruction executes. -/
theorem exec_of_operand2 {o : Operand2} {op : DpOp} {cond : Cond} {sf : Bool} {rn rd : Reg} {s : State}
    (hr : Runs (o.instr op cond sf rn rd) (o.reads rn) s) :
    exec (o.instr op cond sf rn rd) s = dpFinish op sf rd (o.first s rn) (o.second s) s.begun := by
  obtain ⟨_, hm, hv, hc, hz⟩ := hr
  have hres := restriction_of_violation hv
  cases o with
  | imm rot v =>
    rw [Operand2.instr, restriction_mkDpImm] at hres
    rw [Operand2.instr, cond_mkDpImm] at hc
    rw [Operand2.instr, exec_mkDpImm, dpImm]
    exact runArm_of _ hm hc hres hz
  | shi n sh rm =>
    rw [Operand2.instr, restriction_mkDpShi] at hres
    rw [Operand2.instr, cond_mkDpShi] at hc
    rw [Operand2.instr, exec_mkDpShi, dpShi]
    exact runArm_of _ hm hc hres hz
  | shr rs sh rm =>
    rw [Operand2.instr, restriction_mkDpShr] at hres
    rw [Operand2.instr, cond_mkDpShr] at hc
    rw [Operand2.instr, exec_mkDpShr, dpShr]
    exact runArm_of _ hm hc hres hz

/-- What a Thumb data processing instruction executes: an operation with S, that of the form but for NEG, and to r15 only where
nothing is written. -/
theorem exec_of_thumbAluForm {i : Instr} {f : AluForm} {s : State} (h : thumbAluForm s i = some f) (hr : Runs i f.reads s) :
    ∃ op a b, exec i s = dpFinish op true f.rd a b s.begun ∧ (dpWrites op = true → f.rd ≠ 15#4) := by
  obtain ⟨_, hm, hv, hc, hz⟩ := hr
  have hres := restriction_of_violation hv
  have hlow : ∀ r : LReg, r.reg ≠ 15#4 := by decide
  cases i with
  | tLslImm | tLsrImm | tAsrImm | tAddReg | tSubReg | tAddImm3 | tSubImm3 | tMovImm | tCmpImm | tAddImm8 | tSubImm8 | tAnd |
  tEor | tLslReg | tLsrReg | tAsrReg | tAdc | tSbc | tRorReg | tTst | tNeg | tCmpReg | tCmn | tOrr | tBic | tMvn =>
    cases h
    simp only [exec, execTLslImm, execTLsrImm, execTAsrImm, execTAddReg, execTSubReg, execTAddImm3, execTSubImm3,
      execTMovImm, execTCmpImm, execTAddImm8, execTSubImm8, execTAnd, execTEor, execTLslReg, execTLsrReg, execTAsrReg,
      execTAdc, execTSbc, execTRorReg, execTTst, execTNeg, execTCmpReg, execTCmn, execTOrr, execTBic, execTMvn,
      thumbAlu, runThumb]
    exact ⟨_, _, _, runArm_of _ hm hc hres hz, fun _ => hlow _⟩
  | tCmpHi rd rs =>
    cases h
    simp only [exec, execTCmpHi, runThumb]
    exact ⟨_, _, _, runArm_of _ hm hc hres hz, nofun⟩
  | _ => cases h

/-! ## Single transfers and swap -/

/-- What a load executes. -/
theorem exec_of_loadForm {i : Instr} {f : Single LoadKind} {s : State} (h : loadForm s i = some f) (hr : Runs i f.reads s) :
    exec i s = singleLoad f.kind f.user f.tr f.rn f.rd s.begun := by
  obtain ⟨_, hm, hv, hc, hz⟩ := hr
  have hres := restriction_of_violation hv
  cases i with
  | ldrhReg | ldrhImm | ldrsbReg | ldrsbImm | ldrshReg | ldrshImm | ldrImm | ldrImmPost | ldrReg | ldrRegPost | ldrbImm |
  ldrbImmPost | ldrbReg | ldrbRegPost | ldrtImm | ldrtReg | ldrbtImm | ldrbtReg =>
    cases h
    simp only [exec, execLdrhReg, execLdrhImm, execLdrsbReg, execLdrsbImm, execLdrshReg, execLdrshImm, execLdrImm,
      execLdrImmPost, execLdrReg, execLdrRegPost, execLdrbImm, execLdrbImmPost, execLdrbReg, execLdrbRegPost,
      execLdrtImm, execLdrtReg, execLdrbtImm, execLdrbtReg, loadOp]
    exact runArm_of _ hm hc hres hz
  | tLdrPc | tLdrsbReg | tLdrReg | tLdrhReg | tLdrbReg | tLdrshReg | tLdrImm | tLdrbImm | tLdrhImm | tLdrSp =>
    cases h
    simp only [exec, execTLdrPc, execTLdrsbReg, execTLdrReg, execTLdrhReg, execTLdrbReg, execTLdrshReg, execTLdrImm,
      execTLdrbImm, execTLdrhImm, execTLdrSp, thumbLoad, runThumb]
    exact runArm_of _ hm hc hres hz
  | _ => cases h

/-- What a store executes. -/
theorem exec_of_storeForm {i : Instr} {f : Single Size} {s : State} (h : storeForm s i = some f) (hr : Runs i f.reads s) :
    exec i s = singleStore f.kind f.user f.tr f.rn f.rd s.begun := by
  obtain ⟨_, hm, hv, hc, hz⟩ := hr
  have hres := restriction_of_violation hv
  cases i with
  | strhReg | strhImm | strImm | strImmPost | strReg | strRegPost | strbImm | strbImmPost | strbReg | strbRegPost | strtImm
  | strtReg | strbtImm | strbtReg =>
    cases h
    simp only [exec, execStrhReg, execStrhImm, execStrImm, execStrImmPost, execStrReg, execStrRegPost, execStrbImm,
      execStrbImmPost, execStrbReg, execStrbRegPost, execStrtImm, execStrtReg, execStrbtImm, execStrbtReg, storeOp]
    exact runArm_of _ hm hc hres hz
  | tStrReg | tStrhReg | tStrbReg | tStrImm | tStrbImm | tStrhImm | tStrSp =>
    cases h
    simp only [exec, execTStrReg, execTStrhReg, execTStrbReg, execTStrImm, execTStrbImm, execTStrhImm, execTStrSp,
      thumbStore, runThumb]
    exact runArm_of _ hm hc hres hz
  | _ => cases h

/-- What SWP executes. -/
theorem exec_swp {cond : Cond} {rn rd rm : Reg} {s : State} (hr : Runs (.swp cond rn rd rm) [rn, rm] s) :
    exec (.swp cond rn rd rm) s = swap .word rn rd rm s.begun := by
  obtain ⟨_, hm, hv, hc, hz⟩ := hr
  rw [exec, execSwp]
  exact runArm_of _ hm hc (restriction_of_violation hv) hz

/-- What SWPB executes. -/
theorem exec_swpb {cond : Cond} {rn rd rm : Reg} {s : State} (hr : Runs (.swpb cond rn rd rm) [rn, rm] s) :
    exec (.swpb cond rn rd rm) s = swap .byte rn rd rm s.begun := by
  obtain ⟨_, hm, hv, hc, hz⟩ := hr
  rw [exec, execSwpb]
  exact runArm_of _ hm hc (restriction_of_violation hv) hz

/-! ## Block transfers -/

/-- A block load is no block store. -/
theorem storeBlock_of_loadBlock {i : Instr} {f : Block} (h : loadBlock i = some f) (m : Mode) : storeBlock m i = none := by
  cases i with
  | ldmia | ldmib | ldmda | ldmdb | tPop | tLdmia => rfl
  | _ => cases h

/-- What a block load executes. -/
theorem exec_of_loadBlock {i : Instr} {f : Block} {s : State} (h : loadBlock i = some f) (hr : Runs i f.reads s) :
    exec i s = blockLoad f.mode f.sb f.w f.rn f.list s.begun := by
  obtain ⟨_, hm, hv, hc, hz⟩ := hr
  have hres := restriction_of_violation hv
  cases i with
  | ldmia | ldmib | ldmda | ldmdb | tPop | tLdmia =>
    cases h
    simp only [exec, execLdmia, execLdmib, execLdmda, execLdmdb, execTPop, execTLdmia, loadMultiple, runThumb]
    exact runArm_of _ hm hc hres hz
  | _ => cases h

/-- What a block store executes. -/
theorem exec_of_storeBlock {i : Instr} {f : Block} {s : State} (h : storeBlock s.mode i = some f) (hr : Runs i f.reads s) :
    exec i s = blockStore f.mode f.sb f.w f.rn f.list s.begun := by
  obtain ⟨_, hm, hv, hc, hz⟩ := hr
  have hres := restriction_of_violation hv
  cases i with
  | stmia | stmib | stmda | stmdb | tPush | tStmia =>
    cases h
    simp only [exec, execStmia, execStmib, execStmda, execStmdb, execTPush, execTStmia, storeMultiple, runThumb]
    exact runArm_of _ hm hc hres hz
  | _ => cases h

/-! ## LDC and STC -/

/-- What LDC executes: the gate knows no register that it reads, the coprocessor coming first. -/
theorem exec_ldc {cond : Cond} {p u l w : Bool} {rn : Reg} {crd n : BitVec 4} {off : BitVec 8} {s : State} {reads : List Reg}
    (hr : Runs (.ldc cond p u l w rn crd n off) reads s) :
    exec (.ldc cond p u l w rn crd n off) s = ldc (.ldc cond p u l w rn crd n off) p u l w rn crd n off s s.begun := by
  obtain ⟨_, hm, _, hc, _⟩ := hr
  rw [exec, execLdc]
  exact runArm_of _ hm hc rfl (hazard_nil s)

/-- What STC executes, as for LDC. -/
theorem exec_stc {cond : Cond} {p u l w : Bool} {rn : Reg} {crd n : BitVec 4} {off : BitVec 8} {s : State} {reads : List Reg}
    (hr : Runs (.stc cond p u l w rn crd n off) reads s) :
    exec (.stc cond p u l w rn crd n off) s = stc (.stc cond p u l w rn crd n off) p u l w rn crd n off s s.begun := by
  obtain ⟨_, hm, _, hc, _⟩ := hr
  rw [exec, execStc]
  exact runArm_of _ hm hc rfl (hazard_nil s)

/-- A coprocessor that accepts takes part in the instruction. -/
theorem handshake_of_accepts {i : Instr} {o : CopOffer} {c : CopPort} {r : CopRule} {s0 s : State} (h : Accepts s o c r)
    (present : CopPort → CopRule → Result) : handshake i o s0 s present = present c r := by
  obtain ⟨hc, ha⟩ := h
  simp only [handshake, hc, ha]

end Sys2Proof.Proofs
end

section
/-! PROOFS. The lists of block transfers: the order of the listed registers, and what loading them leaves. -/

namespace Sys2Proof.Machine

/-! ## Register writes -/

/-- A write in a mode's view: the physical register it names holds the value, every other one what it held. -/
theorem State.setIn_get (s : State) (m : Mode) (n : Reg) (v : Word) (p : PhysReg) :
    (s.setIn m n v).regs.get p = if phys m n = some p then v else s.regs.get p := by
  unfold State.setIn
  cases phys m n with
  | none => rfl
  | some q =>
    rw [RegFile.get_set]
    simp only [Option.some.injEq, eq_comm]

/-- A register write and a memory access do not see each other. -/
theorem State.setReg_of_access (s : State) (m : Memory) (b : List BusAccess) (n : Reg) (v : Word) :
    ({ s with mem := m, bus := b } : State).setReg n v = { s.setReg n v with mem := m, bus := b } := by
  show State.setIn _ s.mode n v = { s.setIn s.mode n v with mem := m, bus := b }
  unfold State.setIn
  split <;> rfl

theorem State.setReg_regs_congr {s u : State} (hm : u.mode = s.mode) (hr : u.regs = s.regs) (n : Reg) (v : Word) :
    (u.setReg n v).regs = (s.setReg n v).regs := by
  rw [State.setReg, State.setReg, hm]
  exact State.setIn_regs _ _ _ _ _ hr

/-- The base write-back does not see memory accesses. -/
theorem State.writeBase_of_access (s : State) (m : Memory) (b : List BusAccess) (t : Transfer) (rn : Reg) :
    ({ s with mem := m, bus := b } : State).writeBase t rn = { s.writeBase t rn with mem := m, bus := b } := by
  unfold State.writeBase
  split
  · exact s.setReg_of_access m b rn t.newBase
  · rfl

theorem State.writeBase_eq (s : State) (t : Transfer) (rn : Reg) :
    s.writeBase t rn = { s with regs := (s.writeBase t rn).regs } := by
  unfold State.writeBase
  split
  · exact s.setReg_eq rn t.newBase
  · rfl

@[simp] theorem State.mode_writeBase (s : State) (t : Transfer) (rn : Reg) : (s.writeBase t rn).mode = s.mode := by
  rw [State.writeBase_eq]
  rfl

/-! That an instruction has begun is not seen in the registers it writes. -/

theorem State.setReg_begun_regs (s : State) (n : Reg) (v : Word) : (s.begun.setReg n v).regs = (s.setReg n v).regs :=
  State.setReg_regs_congr (s := s) (u := s.begun) rfl rfl n v

theorem State.writeBase_begun_regs (s : State) (t : Transfer) (rn : Reg) :
    (s.begun.writeBase t rn).regs = (s.writeBase t rn).regs := by
  unfold State.writeBase
  split
  · exact s.setReg_begun_regs rn t.newBase
  · rfl

theorem State.setReg_writeBase_begun_regs (s : State) (t : Transfer) (rn rd : Reg) (v : Word) :
    ((s.begun.writeBase t rn).setReg rd v).regs = ((s.writeBase t rn).setReg rd v).regs :=
  State.setReg_regs_congr (by simp only [State.mode_writeBase, State.mode_begun]) (s.writeBase_begun_regs t rn) rd v

/-! ## Loading registers -/

/-- Loading registers does not see the record of accesses. -/
theorem State.loadRegs_of_bus (s : State) (b : List BusAccess) (m : Mode) (pairs : List (Reg × Word)) :
    State.loadRegs m pairs { s with bus := b } = { s with regs := (State.loadRegs m pairs s).regs, bus := b } := by
  induction pairs generalizing s with
  | nil => rfl
  | cons p rest ih =>
    have hset : ({ s with bus := b } : State).setIn m p.1 p.2 = { s.setIn m p.1 p.2 with bus := b } := by
      unfold State.setIn
      split <;> rfl
    rw [State.loadRegs, hset, ih, State.loadRegs, State.setIn_eq]

/-- A register that no number of the bank names is not loaded. -/
theorem State.loadRegs_get_unnamed {m : Mode} {p : PhysReg} (hp : ∀ r, phys m r ≠ some p) (pairs : List (Reg × Word))
    (s : State) : (State.loadRegs m pairs s).regs.get p = s.regs.get p := by
  induction pairs generalizing s with
  | nil => rfl
  | cons q rest ih => rw [State.loadRegs, ih, State.setIn_get, if_neg (hp q.1)]

/-- Loading the registers of a list, each with a word of its own: a listed register holds its word, another what it held. -/
theorem State.loadRegs_map_get (m : Mode) (g : Reg → Word) (l : List Reg) (s : State) {r : Reg} (hr : r ≠ 15#4) {p : PhysReg}
    (hp : phys m r = some p) :
    (State.loadRegs m (l.map fun r => (r, g r)) s).regs.get p = if r ∈ l then g r else s.regs.get p := by
  induction l generalizing s with
  | nil => rfl
  | cons q l ih =>
    have hq : phys m q = some p ↔ r = q :=
      ⟨fun h => phys_injective m hr (hp.trans h.symm), fun h => h ▸ hp⟩
    rw [List.map_cons, State.loadRegs, ih, State.setIn_get]
    by_cases hl : r ∈ l
    · rw [if_pos hl, if_pos (List.mem_cons_of_mem q hl)]
    · rw [if_neg hl]
      by_cases he : r = q
      · rw [if_pos (hq.mpr he), if_pos (List.mem_cons.mpr (.inl he)), he]
      · rw [if_neg (mt hq.mp he), if_neg (by simp only [List.mem_cons, he, hl, or_self, not_false_eq_true])]

end Sys2Proof.Machine

namespace Sys2Proof.Proofs

open Sys2Proof Sys2Proof.Machine Sys2Proof.Claims

/-! ## The order of the listed registers -/

theorem mem_listed {list : BitVec 16} {r : Reg} : r ∈ listed list ↔ inList list r = true := by
  simp only [listed, List.mem_map, List.mem_filter, List.mem_range, inList]
  constructor
  · rintro ⟨k, ⟨hk, hb⟩, rfl⟩
    rwa [BitVec.toNat_ofNat, Nat.mod_eq_of_lt hk]
  · intro hb
    exact ⟨r.toNat, ⟨r.isLt, hb⟩, BitVec.ofNat_toNat ..⟩

/-- In a range, each number with a property has as many such numbers below it as its place says. -/
theorem map_count_below (p : Nat → Bool) (n : Nat) :
    ((List.range n).filter p).map (fun i => ((List.range i).filter p).length) = List.range ((List.range n).filter p).length := by
  induction n with
  | zero => rfl
  | succ n ih =>
    rw [List.range_succ, List.filter_append, List.map_append, ih]
    cases hp : p n with
    | false => simp only [List.filter_cons, hp, Bool.false_eq_true, if_false, List.filter_nil, List.map_nil, List.append_nil]
    | true =>
      simp only [List.filter_cons, hp, if_true, List.filter_nil, List.map_cons, List.map_nil, List.length_append,
        List.length_singleton, List.range_succ]

/-- The ranks of the listed registers count up from 0. -/
theorem map_rank_listed (list : BitVec 16) : (listed list).map (rank list) = List.range (count list) := by
  have h := map_count_below (fun k => list.getLsbD k) 16
  rw [count, listed, List.length_map, ← h, List.map_map]
  refine List.map_congr_left fun k hk => ?_
  have hk16 := List.mem_range.mp (List.mem_of_mem_filter hk)
  rw [Function.comp_apply, rank, BitVec.toNat_ofNat, Nat.mod_eq_of_lt hk16]

/-- A listed register stands in the list at its rank. -/
theorem getElem_listed_rank {list : BitVec 16} {r : Reg} (h : inList list r = true) :
    ∃ hr : rank list r < (listed list).length, (listed list)[rank list r] = r := by
  obtain ⟨j, hj, he⟩ := List.getElem_of_mem (mem_listed.mpr h)
  have hjr : rank list r = j := by
    have hm := List.getElem_of_eq (map_rank_listed list) (i := j) (by rwa [List.length_map])
    rwa [List.getElem_map, List.getElem_range, he] at hm
  subst hjr
  exact ⟨hj, he⟩

theorem count_le (list : BitVec 16) : count list ≤ 16 := by
  rw [count, listed, List.length_map]
  exact (List.length_filter_le ..).trans (List.length_range ..).le

/-- The words of a block transfer go to the listed registers by rank. -/
theorem zip_listed (list : BitVec 16) (g : Nat → Word) :
    (listed list).zip ((List.range (count list)).map g) = (listed list).map fun r => (r, g (rank list r)) := by
  rw [← map_rank_listed, List.map_map]
  simpa only [List.map_id, id_eq, Function.comp_apply] using List.zip_map' (f := id) (g := g ∘ rank list) (l := listed list)

end Sys2Proof.Proofs
end

section
/-! PROOFS. What the effects of transfers come to: single loads and stores, block loads and stores, and swap, where their accesses
find memory, and where one of their stores is into the code window. -/

namespace Sys2Proof.Proofs

open Sys2Proof Sys2Proof.Machine Sys2Proof.Claims

/-! ## Alignment -/

theorem loadMisaligned_of_aligned {s : State} {a : Word} {z : Size} (h : z.aligned a = true) : s.loadMisaligned a z = false := by
  rw [State.loadMisaligned, h]
  rfl

theorem busMisaligned_of_aligned {s : State} {a : Word} {z : Size} (h : z.aligned a = true) : s.busMisaligned a z = false := by
  rw [State.busMisaligned, loadMisaligned_of_aligned h]
  rfl

/-- A misaligned access is refused where the parameter says so, and for a halfword always. -/
theorem loadMisaligned_of_refused {s : State} {a : Word} {z : Size} (h : z.aligned a = false)
    (hr : s.env.params.misaligned = .refuse ∨ z = .half) : s.loadMisaligned a z = true := by
  rw [State.loadMisaligned, h]
  rcases hr with hr | hr <;> rw [hr]
  · exact Bool.or_true _
  · rfl

theorem busMisaligned_of_refused {s : State} {a : Word} {z : Size} (h : z.aligned a = false)
    (hr : s.env.params.misaligned = .refuse ∨ z = .half) (hfeed : s.dbg.feed = none) : s.busMisaligned a z = true := by
  rw [State.busMisaligned, loadMisaligned_of_refused h hr, hfeed]
  rfl

/-- Under the setting armv4t no word access is refused for its alignment. -/
theorem loadMisaligned_word_of_armv4t {s : State} (h : s.env.params.misaligned = .armv4t) (a : Word) :
    s.loadMisaligned a .word = false := by
  rw [State.loadMisaligned, h]
  exact Bool.and_false _

theorem busMisaligned_word_of_armv4t {s : State} (h : s.env.params.misaligned = .armv4t) (a : Word) :
    s.busMisaligned a .word = false := by
  rw [State.busMisaligned, loadMisaligned_word_of_armv4t h]
  rfl

/-! ## The end of an instruction -/

/-- Going on past the top of the address space is refused outside debug state. -/
theorem advance_of_top {s : State} (hd : s.dbg.inDebug = false) (h : 2^32 ≤ s.pc.toNat + s.len.toNat) :
    s.advance = .refused .addressWrap := if_pos ⟨h, hd⟩

theorem isPc_of_ne {r : Reg} (h : r ≠ 15#4) : isPc r = false := decide_eq_false h

/-- A data processing operation that does not write r15 goes on to the next instruction: there it is refused at the top. -/
theorem dpFinish_of_top {op : DpOp} {sf : Bool} {rd : Reg} {a : Word} {b : Shifted} {s : State}
    (hrd : dpWrites op = true → rd ≠ 15#4) (hd : s.dbg.inDebug = false) (h : 2^32 ≤ s.pc.toNat + s.len.toNat) :
    dpFinish op sf rd a b s = .refused .addressWrap := by
  obtain ⟨_, _, _, ht⟩ := (dpCompute op a b.value s.cpsr.c).flags_control s.cpsr b.carry
  have hflags : 2^32 ≤ s.pc.toNat +
      (State.len { s with cpsr := (dpCompute op a b.value s.cpsr.c).flags s.cpsr b.carry }).toNat := by
    unfold State.len
    rw [ht]
    exact h
  unfold dpFinish
  cases hw : dpWrites op with
  | false => exact advance_of_top hd hflags
  | true =>
    simp only [isPc_of_ne (hrd hw), State.writeAndAdvance, Bool.false_eq_true, if_false, if_true]
    cases sf with
    | false => exact advance_of_top (by simpa using hd) (by simpa using h)
    | true => exact advance_of_top (by simpa using hd) (by simpa using hflags)

/-! ## Single transfers -/

/-- A load that finds memory: the base, Rd, the record of the read, and the advance. -/
theorem singleLoad_of_readable {k : LoadKind} {user : Bool} {tr : Transfer} {rn rd : Reg} {s : State}
    (hmis : s.loadMisaligned tr.addr k.size = false) (hrd : rd ≠ 15#4)
    (h : Readable s (k.size.align tr.addr) k.size (s.isPriv && !user)) :
    singleLoad k user tr rn rd s = State.advance
      { s with
        regs := ((s.writeBase tr rn).setReg rd
          (k.extend tr.addr (s.mem.value s.env.params.bigend k.size (k.size.align tr.addr)))).regs
        bus := s.bus ++ [readAccess s tr.addr k.size (s.isPriv && !user) false] } := by
  simp only [singleLoad, hmis, isPc_of_ne hrd, Bool.false_and, Bool.or_self, Bool.false_eq_true, if_false,
    dataRead_of_readable h, State.writeAndAdvance]
  refine congrArg State.advance ?_
  refine (congrArg (State.setReg · rd _) (s.writeBase_of_access s.mem _ tr rn)).trans ?_
  refine ((s.writeBase tr rn).setReg_of_access s.mem _ rd _).trans ?_
  rw [State.setReg_eq, State.writeBase_eq]

/-- A store that finds storage: the base, the bytes, the record of the write, and the advance. -/
theorem singleStore_of_writable {z : Size} {user : Bool} {tr : Transfer} {rn rd : Reg} {s : State}
    (hmis : s.busMisaligned tr.addr z = false) (h : Writable s (z.align tr.addr) z (s.isPriv && !user)) :
    singleStore z user tr rn rd s = State.advance
      { s with
        regs := (s.writeBase tr rn).regs
        mem := s.mem.store s.env.params.bigend z (z.align tr.addr) (s.regAhead rd)
        bus := s.bus ++ [writeAccess s tr.addr z (s.regAhead rd) (s.isPriv && !user) false] } := by
  simp only [singleStore, hmis, Bool.false_eq_true, if_false, dataWrite_of_writable h]
  refine congrArg State.advance ((s.writeBase_of_access _ _ tr rn).trans ?_)
  rw [State.writeBase_eq]

theorem singleStore_of_codeWindow {z : Size} {user : Bool} {tr : Transfer} {rn rd : Reg} {s : State} (hfeed : s.dbg.feed = none)
    (hd : s.dbg.inDebug = false) (hal : z.aligned tr.addr = true)
    (ha : s.env.aborting tr.addr.toNat z .write (s.isPriv && !user) = false) (hw : s.inCodeWindow tr.addr z = true) :
    singleStore z user tr rn rd s = .refused .codeWindow := by
  rw [← Size.align_of_aligned hal] at ha hw
  simp only [singleStore, busMisaligned_of_aligned hal, Bool.false_eq_true, if_false, dataWrite_of_codeWindow hfeed hd ha hw]

/-! ## Swap -/

/-- A swap that finds storage: Rd, the bytes, the records of the read and the write, and the advance. -/
theorem swap_of_accessible {k : LoadKind} {rn rd rm : Reg} {s : State} (hmis : s.loadMisaligned (s.reg rn) k.size = false)
    (hr : Readable s (k.size.align (s.reg rn)) k.size s.isPriv) (hw : Writable s (k.size.align (s.reg rn)) k.size s.isPriv) :
    swap k rn rd rm s = State.advance
      { s with
        regs := (s.setReg rd
          (k.extend (s.reg rn) (s.mem.value s.env.params.bigend k.size (k.size.align (s.reg rn))))).regs
        mem := s.mem.store s.env.params.bigend k.size (k.size.align (s.reg rn)) (s.reg rm)
        bus := s.bus ++ [readAccess s (s.reg rn) k.size s.isPriv true,
          writeAccess s (s.reg rn) k.size (s.reg rm) s.isPriv true] } := by
  have hw' : Writable { s with bus := s.bus ++ [readAccess s (s.reg rn) k.size s.isPriv true] }
      (k.size.align (s.reg rn)) k.size s.isPriv := hw
  simp only [swap, hmis, Bool.false_eq_true, if_false, dataRead_of_readable hr, dataWrite_of_writable hw']
  refine congrArg State.advance ((s.setReg_of_access _ _ rd _).trans ?_)
  rw [State.setReg_eq, List.append_assoc]
  rfl

theorem swap_of_codeWindow {k : LoadKind} {rn rd rm : Reg} {s : State} (hfeed : s.dbg.feed = none) (hd : s.dbg.inDebug = false)
    (hal : k.size.aligned (s.reg rn) = true) (har : s.env.aborting (s.reg rn).toNat k.size .read s.isPriv = false)
    (haw : s.env.aborting (s.reg rn).toNat k.size .write s.isPriv = false) (hw : s.inCodeWindow (s.reg rn) k.size = true) :
    swap k rn rd rm s = .refused .codeWindow := by
  rw [← Size.align_of_aligned hal] at har haw hw
  obtain ⟨v, t, hread, ht⟩ := dataRead_of_not_aborting hfeed har true
  have hwrite : t.dataWrite (s.reg rn) k.size (s.reg rm) s.isPriv true = .refused .codeWindow := by
    rw [ht]
    refine dataWrite_of_codeWindow ?_ ?_ ?_ ?_ _ _
    exacts [hfeed, hd, haw, hw]
  simp only [swap, loadMisaligned_of_aligned hal, Bool.false_eq_true, if_false, hread, hwrite]

/-! ## Block transfers -/

theorem firstOf_eq_none {l : List (Bool × Restriction)} (h : Restriction.firstOf l = none) : ∀ x ∈ l, x.1 = false := by
  induction l with
  | nil => nofun
  | cons x l ih =>
    obtain ⟨b, r⟩ := x
    cases b with
    | false => exact List.forall_mem_cons.mpr ⟨rfl, ih h⟩
    | true => cases h

/-- A well-formed load of the User bank writes no base back. -/
theorem loadBlock_userBank {i : Instr} {f : Block} (h : loadBlock i = some f) (hv : i.violation = none)
    (hpc : inList f.list 15#4 = false) (hsb : f.sb = true) : f.w = false := by
  have hres := restriction_of_violation hv
  have hldm : ∀ sf w rn list, Restriction.loadMultiple sf w rn list = none → inList list 15#4 = false → sf = true →
      w = false := by
    intro sf w rn list hr hpc hsf
    have hw : (sf && w && !inList list 15#4) = false :=
      firstOf_eq_none hr (_, .userBankWriteBack) (.tail _ (.tail _ (.head _)))
    rwa [hsf, hpc, Bool.true_and, Bool.not_false, Bool.and_true] at hw
  cases i with
  | ldmia | ldmib | ldmda | ldmdb => cases h; exact hldm _ _ _ _ hres hpc hsb
  | tPop | tLdmia => cases h; cases hsb
  | _ => cases h

/-- The base write-back of a block transfer does not see its accesses. -/
theorem setReg_newBase_of_access (f : Block) (s : State) (m : Memory) (b : List BusAccess) :
    (if f.w then ({ s with mem := m, bus := b } : State).setReg f.rn (f.newBase s) else { s with mem := m, bus := b }) =
      { s with regs := f.baseRegs s, mem := m, bus := b } := by
  unfold Block.baseRegs
  split
  · rw [State.setReg_of_access, State.setReg_eq]
  · rfl

theorem baseRegs_begun (f : Block) (s : State) : f.baseRegs s.begun = f.baseRegs s := by
  unfold Block.baseRegs
  split
  · exact s.setReg_begun_regs f.rn (f.newBase s)
  · rfl

theorem baseRegs_get (f : Block) (s : State) (p : PhysReg) :
    (f.baseRegs s).get p = if f.w = true ∧ phys s.mode f.rn = some p then f.newBase s else s.regs.get p := by
  unfold Block.baseRegs
  cases f.w with
  | false => simp only [Bool.false_eq_true, if_false, false_and]
  | true =>
    simp only [if_true, true_and]
    exact s.setIn_get s.mode f.rn (f.newBase s) p

/-- The registers after the base write-back and a word of its own for each listed register are those of a block load. -/
theorem blockLoadedFrom_loadRegs (at' : Nat → Word) {f : Block} {bank : Mode} {s : State} (hbank : f.w = true → bank = s.mode) :
    BlockLoadedFrom at' f bank s
      (State.loadRegs bank ((listed f.list).map fun r => (r, s.mem.word s.env.params.bigend (at' (rank f.list r))))
        { s with regs := f.baseRegs s }).regs := by
  refine ⟨fun r hr p hp => ?_, fun p hp => ?_⟩
  · rw [State.loadRegs_map_get bank _ _ _ hr hp]
    simp only [mem_listed]
    split
    · rfl
    · rw [baseRegs_get]
      have hiff : f.w = true ∧ phys s.mode f.rn = some p ↔ f.w = true ∧ r = f.rn := by
        refine and_congr_right fun hw => ⟨fun h => ?_, fun h => ?_⟩
        · exact phys_injective s.mode hr ((hbank hw ▸ hp).trans h.symm)
        · rw [← h, ← hbank hw, hp]
      simp only [hiff]
  · rw [State.loadRegs_get_unnamed hp, baseRegs_get, if_neg]
    rintro ⟨hw, h⟩
    exact hp f.rn (hbank hw ▸ h)

/-- A block load without r15 that finds memory: the registers, the mark of a User-bank load, the records, and the advance. -/
theorem blockLoad_of_readable {f : Block} {s : State} (hpc : inList f.list 15#4 = false) (hsb : f.sb = true → f.w = false)
    (hmis : s.busMisaligned (f.start s) .word = false)
    (h : ∀ k < count f.list, Readable s (Size.word.align (f.addr s k)) .word s.isPriv) :
    ∃ regs bus, blockLoad f.mode f.sb f.w f.rn f.list s =
        State.advance { s with regs := regs, usrLdm := f.sb, bus := bus } ∧
      BlockLoadedFrom (fun k => Size.word.align (f.addr s k)) f (if f.sb then .usr else s.mode) s regs := by
  obtain ⟨bus, hburst⟩ := readBurst_of_readable h
  have hbank : f.w = true → blockBank s f.sb = s.mode := by
    intro hw
    cases hb : f.sb with
    | false => rfl
    | true => exact absurd (hw.symm.trans (hsb hb)) (by decide)
  refine ⟨_, bus, ?_, blockLoadedFrom_loadRegs _ hbank⟩
  have hburst' : State.readBurst s.isPriv (listed f.list).length (f.mode.start (s.reg f.rn) f.list) s = _ := hburst
  have hmis' : s.busMisaligned (f.mode.start (s.reg f.rn) f.list) .word = false := hmis
  have hbase : (if f.w then ({ s with bus := bus } : State).setReg f.rn (f.mode.newBase (s.reg f.rn) f.list)
      else { s with bus := bus }) = { s with regs := f.baseRegs s, bus := bus } := setReg_newBase_of_access f s s.mem bus
  simp only [blockLoad, hmis', hpc, hburst', hbase, zip_listed, Bool.false_and, Bool.and_false, Bool.or_self, Bool.not_false,
    Bool.and_true, Bool.false_eq_true, if_false]
  exact congrArg (fun u : State => State.advance { u with usrLdm := f.sb })
    (State.loadRegs_of_bus { s with regs := f.baseRegs s } bus _ _)

/-- A block store that finds storage: the base, the words of the listed registers, the records, and the advance. -/
theorem blockStore_of_writable {f : Block} {s : State} (hmis : s.busMisaligned (f.start s) .word = false)
    (h : ∀ k < count f.list, Writable s (Size.word.align (f.addr s k)) .word s.isPriv) :
    ∃ bus, blockStore f.mode f.sb f.w f.rn f.list s = State.advance
      { s with
        regs := f.baseRegs s
        mem := Memory.storeWords s.env.params.bigend ((listed f.list).map (s.regView (blockBank s f.sb) (s.pc + 12)))
          (Size.word.align (f.start s)) s.mem
        bus := bus } := by
  obtain ⟨bus, hburst⟩ := writeBurst_of_writable (a := f.start s) (s := s) (priv := s.isPriv)
    (vs := (listed f.list).map (s.regView (blockBank s f.sb) (s.pc + 12))) fun j hj => h j (by rwa [List.length_map] at hj)
  refine ⟨bus, ?_⟩
  have hburst' : State.writeBurst s.isPriv _ (f.mode.start (s.reg f.rn) f.list) s = _ := hburst
  have hmis' : s.busMisaligned (f.mode.start (s.reg f.rn) f.list) .word = false := hmis
  simp only [blockStore, hmis', hburst', Bool.false_eq_true, if_false]
  exact congrArg State.advance (setReg_newBase_of_access f s _ bus)

theorem blockStore_of_codeWindow {f : Block} {s : State} (hfeed : s.dbg.feed = none) (hd : s.dbg.inDebug = false)
    (hal : Size.word.aligned (f.start s) = true)
    (h : ∃ j < count f.list, s.env.aborting (f.addr s j).toNat .word .write s.isPriv = false ∧
      s.inCodeWindow (f.addr s j) .word = true) :
    blockStore f.mode f.sb f.w f.rn f.list s = .refused .codeWindow := by
  have haddr : ∀ j, Size.word.align (f.start s + BitVec.ofNat 32 (4 * j)) = f.addr s j := by
    intro j
    rw [Size.align_word_add, Size.align_of_aligned hal, Block.addr]
  have hburst : State.writeBurst s.isPriv ((listed f.list).map (s.regView (blockBank s f.sb) (s.pc + 12))) (f.start s) s =
      .error .codeWindow := by
    refine writeBurst_of_codeWindow hfeed hd ?_
    simp only [haddr, List.length_map]
    exact h
  have hburst' : State.writeBurst s.isPriv _ (f.mode.start (s.reg f.rn) f.list) s = _ := hburst
  have hmis' : s.busMisaligned (f.mode.start (s.reg f.rn) f.list) .word = false := busMisaligned_of_aligned hal
  simp only [blockStore, hmis', hburst', Bool.false_eq_true, if_false]

/-- The words of a block store read back: each listed register at its rank, every byte outside the block as before. -/
theorem storeWords_listed {m : Memory} (h : m.wf = true) (big : Bool) (list : BitVec 16) (g : Reg → Word) (a : Word) :
    (∀ r, inList list r = true → (Memory.storeWords big ((listed list).map g) a m).word big
      (a + BitVec.ofNat 32 (4 * rank list r)) = g r) ∧
    (∀ b : Word, (∀ k < 4 * count list, b ≠ a + BitVec.ofNat 32 k) →
      (Memory.storeWords big ((listed list).map g) a m).byte b = m.byte b) := by
  have hcount : (listed list).length ≤ 16 := count_le list
  refine ⟨fun r hr => ?_, fun b hb => ?_⟩
  · obtain ⟨hlt, he⟩ := getElem_listed_rank hr
    rw [Memory.word_storeWords h big _ a (by rw [List.length_map]; omega) (by rwa [List.length_map]), List.getElem_map, he]
  · exact Memory.byte_storeWords_other h big _ a b (by rwa [List.length_map])

end Sys2Proof.Proofs
end

section
/-! PROOFS. The statements about memory and its alignment: byte order, the canonical form, the code window, misaligned transfers. -/

namespace Sys2Proof.Proofs

open Sys2Proof Sys2Proof.Machine Sys2Proof.Claims

/-! ## Memory -/

/-- Settles O13. -/
theorem memoryViews : Obligations.MemoryViews := by
  unfold Obligations.MemoryViews
  intro m a
  obtain ⟨hwl, hwb⟩ := m.word_toNat a
  obtain ⟨hhl, hhb⟩ := m.half_toNat a
  exact ⟨hwl, hwb, hhl, hhb⟩

/-- Settles O14, by induction on the cells: two canonical memories with equal bytes begin with the same cell. -/
theorem canonicalMemoriesAreEqual : Obligations.CanonicalMemoriesAreEqual := by
  unfold Obligations.CanonicalMemoriesAreEqual
  intro m m' h h' he
  refine Memory.eq_of_wfFrom h h' fun a ha => ?_
  have hb := he (BitVec.ofNat 32 a)
  rwa [Memory.byte, Memory.byte, BitVec.toNat_ofNat, Nat.mod_eq_of_lt ha] at hb

/-! ## The code window and the top of memory -/

/-- Settles O18: the write is refused where its bytes are in the window, and the advance where the next address would wrap. -/
theorem codeWindowAndTopOfMemoryAreRefused : Obligations.CodeWindowAndTopOfMemoryAreRefused := by
  unfold Obligations.CodeWindowAndTopOfMemoryAreRefused
  refine ⟨?_, ?_, ?_, fun s hd htop => ⟨?_, ?_, ?_, ?_, ?_⟩⟩
  · intro i f s hf hr hfeed hd hal ha hw
    rw [exec_of_storeForm hf hr]
    exact singleStore_of_codeWindow (s := s.begun) hfeed hd hal ha (inCodeWindow_iff.mpr hw)
  · intro i f s hf hr hfeed hd hal ⟨j, hj, ha, hw⟩
    rw [exec_of_storeBlock hf hr]
    exact blockStore_of_codeWindow (s := s.begun) hfeed hd hal ⟨j, hj, ha, inCodeWindow_iff.mpr hw⟩
  · intro cond byte rn rd rm s i z hr hfeed hd hal har haw hw
    cases byte with
    | false =>
      exact (exec_swp hr).trans
        (swap_of_codeWindow (k := .word) (s := s.begun) hfeed hd hal har haw (inCodeWindow_iff.mpr hw))
    | true =>
      exact (exec_swpb hr).trans
        (swap_of_codeWindow (k := .byte) (s := s.begun) hfeed hd hal har haw (inCodeWindow_iff.mpr hw))
  · intro i c hc hnv hf hm
    rw [exec_of_conditionFailed hc hnv hf hm]
    exact advance_of_top (s := s.begun) hd htop
  · intro o op cond sf rn rd hr hrd
    rw [exec_of_operand2 hr]
    exact dpFinish_of_top (s := s.begun) (fun _ => hrd) hd htop
  · intro i f hf hr
    obtain ⟨op, a, b, he, hrd⟩ := exec_of_thumbAluForm hf hr
    rw [he]
    exact dpFinish_of_top (s := s.begun) hrd hd htop
  · intro i f hf hr hrd hal hread
    rw [← Size.align_of_aligned hal] at hread
    rw [exec_of_loadForm hf hr, singleLoad_of_readable (s := s.begun) (loadMisaligned_of_aligned hal) hrd hread]
    exact advance_of_top hd htop
  · intro i f hf hr hal hwrite
    rw [← Size.align_of_aligned hal] at hwrite
    rw [exec_of_storeForm hf hr, singleStore_of_writable (s := s.begun) (busMisaligned_of_aligned hal) hwrite]
    exact advance_of_top hd htop

/-! ## Misaligned transfers: what is refused -/

theorem load_refused_of_misaligned {i : Instr} {f : Single LoadKind} {s : State} (hf : loadForm s i = some f) (hr : Runs i f.reads s)
    (hal : f.kind.size.aligned f.tr.addr = false)
    (h : s.env.params.misaligned = .refuse ∨ f.kind.size = .half ∨ f.rd = 15#4) : exec i s = .refused .misaligned := by
  rw [exec_of_loadForm hf hr, singleLoad]
  refine if_pos (Bool.or_eq_true_iff.mpr ?_)
  rcases h with h | h | h
  · exact .inl (loadMisaligned_of_refused hal (.inl h))
  · exact .inl (loadMisaligned_of_refused hal (.inr h))
  · right
    rw [hal, h]
    rfl

theorem store_refused_of_misaligned {i : Instr} {f : Single Size} {s : State} (hf : storeForm s i = some f) (hr : Runs i f.reads s)
    (hfeed : s.dbg.feed = none) (hal : f.kind.aligned f.tr.addr = false)
    (h : s.env.params.misaligned = .refuse ∨ f.kind = .half) : exec i s = .refused .misaligned := by
  rw [exec_of_storeForm hf hr, singleStore]
  exact if_pos (busMisaligned_of_refused hal h hfeed)

theorem block_refused_of_misaligned {i : Instr} {f : Block} {s : State}
    (hf : loadBlock i = some f ∨ storeBlock s.mode i = some f) (hr : Runs i f.reads s) (hfeed : s.dbg.feed = none)
    (hal : Size.word.aligned (f.start s) = false)
    (h : s.env.params.misaligned = .refuse ∨ loadBlock i = some f ∧ inList f.list 15#4 = true) :
    exec i s = .refused .misaligned := by
  have hbus : s.env.params.misaligned = .refuse → s.busMisaligned (f.start s) .word = true :=
    fun h => busMisaligned_of_refused hal (.inl h) hfeed
  rcases hf with hf | hf
  · rw [exec_of_loadBlock hf hr, blockLoad]
    refine if_pos (Bool.or_eq_true_iff.mpr ?_)
    rcases h with h | ⟨_, hpc⟩
    · exact .inl (hbus h)
    · right
      rw [hpc]
      exact Bool.and_eq_true_iff.mpr ⟨congrArg not hal, congrArg Option.isNone hfeed⟩
  · have hrefuse : s.env.params.misaligned = .refuse := by
      refine h.resolve_right fun ⟨hload, _⟩ => ?_
      rw [storeBlock_of_loadBlock hload] at hf
      cases hf
    rw [exec_of_storeBlock hf hr, blockStore]
    exact if_pos (hbus hrefuse)

theorem swap_refused_of_misaligned {cond : Cond} {rn rd rm : Reg} {s : State} (hr : Runs (.swp cond rn rd rm) [rn, rm] s)
    (hal : Size.word.aligned (s.reg rn) = false) (h : s.env.params.misaligned = .refuse) :
    exec (.swp cond rn rd rm) s = .refused .misaligned := by
  rw [exec_swp hr, swap]
  exact if_pos (loadMisaligned_of_refused hal (.inl h))

theorem ldc_refused_of_misaligned {cond : Cond} {p u l w : Bool} {rn : Reg} {crd n : BitVec 4} {off : BitVec 8} {o : CopOffer}
    {c : CopPort} {r : CopRule} {s : State} (ho : copForm s (.ldc cond p u l w rn crd n off) = some o) (hn : n ≠ 14#4)
    (ha : Accepts s o c r) (hr : Runs (.ldc cond p u l w rn crd n off) [rn] s)
    (hal : Size.word.aligned (transferOf p u w (s.reg rn) (4 * off.setWidth 32)).addr = false)
    (h : s.env.params.misaligned = .refuse) : exec (.ldc cond p u l w rn crd n off) s = .refused .misaligned := by
  have ⟨_, _, hv, _, hz⟩ := hr
  have hres : Restriction.coprocessorTransfer p w rn = none := restriction_of_violation hv
  have hmis : s.begun.loadMisaligned (copTransfer p u w (s.begun.reg rn) off).addr .word = true :=
    loadMisaligned_of_refused hal (.inl h)
  cases ho
  rw [exec_ldc hr, ldc]
  refine (if_neg hn).trans ((handshake_of_accepts (s := s.begun) ha _).trans ?_)
  simp only [hres, hz, hmis, Bool.false_eq_true, if_false, if_true]

theorem stc_refused_of_misaligned {cond : Cond} {p u l w : Bool} {rn : Reg} {crd n : BitVec 4} {off : BitVec 8} {o : CopOffer}
    {c : CopPort} {r : CopRule} {s : State} (ho : copForm s (.stc cond p u l w rn crd n off) = some o) (hn : n ≠ 14#4)
    (ha : Accepts s o c r) (hr : Runs (.stc cond p u l w rn crd n off) [rn] s) (hfeed : s.dbg.feed = none)
    (hal : Size.word.aligned (transferOf p u w (s.reg rn) (4 * off.setWidth 32)).addr = false)
    (h : s.env.params.misaligned = .refuse) : exec (.stc cond p u l w rn crd n off) s = .refused .misaligned := by
  have ⟨_, _, hv, _, hz⟩ := hr
  have hres : Restriction.coprocessorTransfer p w rn = none := restriction_of_violation hv
  have hmis : s.begun.busMisaligned (copTransfer p u w (s.begun.reg rn) off).addr .word = true :=
    busMisaligned_of_refused hal (.inl h) hfeed
  cases ho
  rw [exec_stc hr, stc]
  refine (if_neg hn).trans ((handshake_of_accepts (s := s.begun) ha _).trans ?_)
  simp only [hres, hz, hmis, Bool.false_eq_true, if_false, if_true]

/-! ## Misaligned transfers under the setting armv4t -/

/-- A word load reads the aligned word and delivers it rotated. -/
theorem load_of_armv4t {i : Instr} {f : Single LoadKind} {s : State} (hf : loadForm s i = some f) (hr : Runs i f.reads s)
    (hroom : Room s) (hrd : f.rd ≠ 15#4) (hk : f.kind = .word) (hp : s.env.params.misaligned = .armv4t)
    (hread : Readable s (Size.word.align f.tr.addr) .word (s.isPriv && !f.user)) :
    ∃ t, exec i s = .next t ∧
      t.regs = ((baseRegs f s).setReg f.rd
        ((s.mem.word s.env.params.bigend (Size.word.align f.tr.addr)).rotateRight (8 * (f.tr.addr.toNat % 4)))).regs ∧
      t = { s.begun with regs := t.regs, pc := s.pc + s.len, bus := t.bus } := by
  have hmis : s.begun.loadMisaligned f.tr.addr .word = false := loadMisaligned_word_of_armv4t hp _
  rw [exec_of_loadForm hf hr, hk, singleLoad_of_readable (s := s.begun) (k := .word) hmis hrd hread,
    State.setReg_writeBase_begun_regs]
  exact ⟨_, State.advance_of hroom, rfl, rfl⟩

/-- A word store goes to the aligned word. -/
theorem store_of_armv4t {i : Instr} {f : Single Size} {s : State} (hf : storeForm s i = some f) (hr : Runs i f.reads s)
    (hroom : Room s) (hwf : s.mem.wf = true) (hk : f.kind = .word) (hp : s.env.params.misaligned = .armv4t)
    (hwrite : Writable s (Size.word.align f.tr.addr) .word (s.isPriv && !f.user)) :
    ∃ t, exec i s = .next t ∧ Stored s .word (Size.word.align f.tr.addr) (s.regAhead f.rd) t.mem ∧
      t = { s.begun with regs := (baseRegs f s).regs, mem := t.mem, pc := s.pc + s.len, bus := t.bus } := by
  have hmis : s.begun.busMisaligned f.tr.addr .word = false := busMisaligned_word_of_armv4t hp _
  rw [exec_of_storeForm hf hr, hk, singleStore_of_writable (s := s.begun) hmis hwrite, State.writeBase_begun_regs]
  exact ⟨_, State.advance_of hroom, stored_store hwf _ _ _, rfl⟩

/-- A block load reads the words at the aligned addresses; its base is not aligned. -/
theorem blockLoad_of_armv4t {i : Instr} {f : Block} {s : State} (hf : loadBlock i = some f) (hr : Runs i f.reads s) (hroom : Room s)
    (hpc : inList f.list 15#4 = false) (hp : s.env.params.misaligned = .armv4t)
    (hread : ∀ k < count f.list, Readable s (Size.word.align (f.addr s k)) .word s.isPriv) :
    ∃ t, exec i s = .next t ∧
      BlockLoadedFrom (fun k => Size.word.align (f.addr s k)) f (if f.sb then .usr else s.mode) s t.regs ∧
      t = { s.begun with regs := t.regs, pc := s.pc + s.len, usrLdm := f.sb, bus := t.bus } := by
  have ⟨_, _, hv, _⟩ := hr
  obtain ⟨regs, bus, he, hregs⟩ := blockLoad_of_readable (s := s.begun) hpc (loadBlock_userBank hf hv hpc)
    (busMisaligned_word_of_armv4t hp _) hread
  rw [exec_of_loadBlock hf hr, he]
  exact ⟨_, State.advance_of hroom, hregs, rfl⟩

/-- A block store goes to the words at the aligned addresses; its base is not aligned. -/
theorem blockStore_of_armv4t {i : Instr} {f : Block} {s : State} (hf : storeBlock s.mode i = some f) (hr : Runs i f.reads s)
    (hroom : Room s) (hwf : s.mem.wf = true) (hp : s.env.params.misaligned = .armv4t)
    (hwrite : ∀ k < count f.list, Writable s (Size.word.align (f.addr s k)) .word s.isPriv) :
    ∃ t, exec i s = .next t ∧ t.mem.wf = true ∧
      (∀ r : Reg, inList f.list r = true →
        t.mem.word s.env.params.bigend (Size.word.align (f.addr s (rank f.list r))) =
          s.regView (if f.sb then .usr else s.mode) (s.pc + 12) r) ∧
      (∀ b : Word, (∀ k < 4 * count f.list, b ≠ Size.word.align (f.start s) + BitVec.ofNat 32 k) →
        t.mem.byte b = s.mem.byte b) ∧
      t = { s.begun with regs := f.baseRegs s, mem := t.mem, pc := s.pc + s.len, bus := t.bus } := by
  obtain ⟨bus, he⟩ := blockStore_of_writable (s := s.begun) (busMisaligned_word_of_armv4t hp _) hwrite
  obtain ⟨hword, hother⟩ := storeWords_listed hwf s.env.params.bigend f.list
    (s.regView (if f.sb then .usr else s.mode) (s.pc + 12)) (Size.word.align (f.start s))
  rw [exec_of_storeBlock hf hr, he, baseRegs_begun]
  refine ⟨_, State.advance_of hroom, Memory.storeWords_wf hwf .., fun r hr => ?_, hother, rfl⟩
  rw [Block.addr, Size.align_word_add]
  exact hword r hr

/-- A swap reads as a load and writes as a store. -/
theorem swap_of_armv4t {cond : Cond} {rn rd rm : Reg} {s : State} (hr : Runs (.swp cond rn rd rm) [rn, rm] s) (hroom : Room s)
    (hwf : s.mem.wf = true) (hp : s.env.params.misaligned = .armv4t)
    (hread : Readable s (Size.word.align (s.reg rn)) .word s.isPriv)
    (hwrite : Writable s (Size.word.align (s.reg rn)) .word s.isPriv) :
    ∃ t, exec (.swp cond rn rd rm) s = .next t ∧ Stored s .word (Size.word.align (s.reg rn)) (s.reg rm) t.mem ∧
      t = { s.begun with
            regs := (s.setReg rd
              ((s.mem.word s.env.params.bigend (Size.word.align (s.reg rn))).rotateRight (8 * ((s.reg rn).toNat % 4)))).regs
            mem := t.mem
            pc := s.pc + 4
            bus := t.bus } := by
  have ⟨hthumb, _⟩ := hr
  have hlen : s.len = 4 := by
    rw [State.len, hthumb]
    rfl
  rw [exec_swp hr, swap_of_accessible (k := .word) (s := s.begun) (loadMisaligned_word_of_armv4t hp _) hread hwrite,
    State.setReg_begun_regs, ← hlen]
  exact ⟨_, State.advance_of hroom, stored_store hwf _ _ _, rfl⟩

/-- Settles O38: a refusal is the first test of each effect, and under armv4t the accesses at the aligned addresses succeed. -/
theorem misalignedTransfers : Obligations.MisalignedTransfers := by
  unfold Obligations.MisalignedTransfers
  refine ⟨?_, ?_, ?_, ?_, ?_, ?_, ?_, ?_, ?_, ?_⟩
  · intro i f s hf hr hal h
    exact load_refused_of_misaligned hf hr hal h
  · intro i f s hf hr hfeed hal h
    exact store_refused_of_misaligned hf hr hfeed hal h
  · intro i f s hf hr hfeed hal h
    exact block_refused_of_misaligned hf hr hfeed hal h
  · intro cond rn rd rm s hr hal h
    exact swap_refused_of_misaligned hr hal h
  · intro load cond p u l w rn crd n off o c r s i ho hn ha hr hfeed hal h
    cases load with
    | true => exact ldc_refused_of_misaligned ho hn ha hr hal h
    | false => exact stc_refused_of_misaligned ho hn ha hr hfeed hal h
  · intro i f s hf hr hroom hrd hk hp hread
    exact load_of_armv4t hf hr hroom hrd hk hp hread
  · intro i f s hf hr hroom hwf hk hp hwrite
    exact store_of_armv4t hf hr hroom hwf hk hp hwrite
  · intro i f s hf hr hroom hpc hp hread
    exact blockLoad_of_armv4t hf hr hroom hpc hp hread
  · intro i f s hf hr hroom hwf hp hwrite
    exact blockStore_of_armv4t hf hr hroom hwf hp hwrite
  · intro cond rn rd rm s a hr hroom hwf hp hread hwrite
    exact swap_of_armv4t hr hroom hwf hp hread hwrite

end Sys2Proof.Proofs
end

section
/-! PROOFS. Reading the bits of a word: a window splits into windows, a word is its windows put together, a word made of fields gives
them back, and an operand taken from a window has the number in the window. -/

namespace Sys2Proof

/-! ## Windows -/

theorem fld_lt (n lo w : Nat) : fld n lo w < 2^w := Nat.mod_lt _ (Nat.two_pow_pos w)

theorem fld_one_cases (n lo : Nat) : fld n lo 1 = 0 ∨ fld n lo 1 = 1 := by
  have := fld_lt n lo 1
  omega

theorem fbit_eq (n lo : Nat) : fbit n lo = decide (fld n lo 1 = 1) := rfl

/-- A window is its low part and its high part. -/
theorem fld_add (n lo a b : Nat) : fld n lo (a + b) = fld n lo a + 2^a * fld n (lo + a) b := by
  rw [fld, Nat.pow_add, Nat.mod_mul, Nat.div_div_eq_div_mul, ← Nat.pow_add]
  rfl

/-- A number below 2^w is its lowest w bits. -/
theorem fld_eq_self {n w : Nat} (h : n < 2^w) : fld n 0 w = n := by
  rw [fld, Nat.pow_zero, Nat.div_one, Nat.mod_eq_of_lt h]

/-- A window of a window. -/
theorem fld_fld (n lo a b c : Nat) : fld (fld n lo (a + b + c)) a b = fld n (lo + a) b := by
  rw [Nat.add_assoc, fld_add n lo a, fld_add n (lo + a) b, fld, Nat.add_mul_div_left _ _ (Nat.two_pow_pos a),
    Nat.div_eq_of_lt (fld_lt n lo a), Nat.zero_add, Nat.add_mul_mod_self_left, Nat.mod_eq_of_lt (fld_lt n (lo + a) b)]

/-- Adjacent windows of a word, of the given widths from bit `lo` up, put together again. -/
def glue (n : Nat) : Nat → List Nat → Nat
  | _, [] => 0
  | lo, w :: ws => fld n lo w + 2^w * glue n (lo + w) ws

theorem glue_eq_fld (n lo : Nat) (ws : List Nat) : glue n lo ws = fld n lo ws.sum := by
  induction ws generalizing lo with
  | nil => simp [glue, fld, Nat.mod_one]
  | cons w ws ih => rw [glue, ih, List.sum_cons, fld_add]

/-- A word is its windows, whatever their widths, as long as they cover it. -/
theorem eq_glue {n : Nat} (ws : List Nat) (h : n < 2^ws.sum) : n = glue n 0 ws := by
  rw [glue_eq_fld, fld_eq_self h]

/-! ## Words made of fields -/

/-- A field of any width. -/
abbrev BitField := (w : Nat) × BitVec w

/-- The word made of the fields side by side, the lowest first. -/
def wordOf : List BitField → Nat
  | [] => 0
  | ⟨w, x⟩ :: fs => x.toNat + 2^w * wordOf fs

/-- The number of bits of the fields together. -/
def widthOf : List BitField → Nat
  | [] => 0
  | ⟨w, _⟩ :: fs => w + widthOf fs

/-- The windows of `n` from bit `lo` up hold the fields. -/
def Reads (n : Nat) : Nat → List BitField → Prop
  | _, [] => True
  | lo, ⟨w, x⟩ :: fs => fld n lo w = x.toNat ∧ Reads n (lo + w) fs

theorem wordOf_lt (fs : List BitField) : wordOf fs < 2^widthOf fs := by
  induction fs with
  | nil => exact Nat.one_pos
  | cons f fs ih =>
    obtain ⟨w, x⟩ := f
    rw [wordOf, widthOf, Nat.pow_add]
    calc x.toNat + 2^w * wordOf fs < 2^w + 2^w * wordOf fs := Nat.add_lt_add_right x.isLt _
      _ = 2^w * (wordOf fs + 1) := by ring
      _ ≤ 2^w * 2^widthOf fs := Nat.mul_le_mul_left _ ih

theorem reads_of_div_eq_wordOf {n lo : Nat} {fs : List BitField} (h : n / 2^lo = wordOf fs) : Reads n lo fs := by
  induction fs generalizing lo with
  | nil => trivial
  | cons f fs ih =>
    obtain ⟨w, x⟩ := f
    rw [wordOf] at h
    constructor
    · rw [fld, h, Nat.add_mul_mod_self_left, Nat.mod_eq_of_lt x.isLt]
    · apply ih
      rw [Nat.pow_add, ← Nat.div_div_eq_div_mul, h, Nat.add_mul_div_left _ _ (Nat.two_pow_pos w), Nat.div_eq_of_lt x.isLt,
        Nat.zero_add]

/-- A word made of fields gives them back. -/
theorem reads_wordOf (fs : List BitField) : Reads (wordOf fs) 0 fs :=
  reads_of_div_eq_wordOf (by rw [Nat.pow_zero, Nat.div_one])

/-! ## Operands -/

theorem toNat_ofNat_fld (n lo w : Nat) : (BitVec.ofNat w (fld n lo w)).toNat = fld n lo w := by
  rw [BitVec.toNat_ofNat, Nat.mod_eq_of_lt (fld_lt n lo w)]

theorem toNat_freg (n lo : Nat) : (freg n lo).toNat = fld n lo 4 := toNat_ofNat_fld n lo 4

theorem toNat_flreg (n lo : Nat) : (flreg n lo).toNat = fld n lo 3 := toNat_ofNat_fld n lo 3

theorem toNat_fbit (n lo : Nat) : (fbit n lo).toNat = fld n lo 1 := by
  rcases fld_one_cases n lo with h | h <;> rw [fbit_eq, h] <;> rfl

theorem Cond.code_ofCode : ∀ {k : Nat}, k < 16 → (Cond.ofCode k).code = k := by decide

theorem ShiftType.code_ofCode : ∀ {k : Nat}, k < 4 → (ShiftType.ofCode k).code = k := by decide

theorem code_cond_fld (n lo : Nat) : (Cond.ofCode (fld n lo 4)).code = fld n lo 4 := Cond.code_ofCode (fld_lt n lo 4)

theorem code_shift_fld (n lo : Nat) : (ShiftType.ofCode (fld n lo 2)).code = fld n lo 2 := ShiftType.code_ofCode (fld_lt n lo 2)

/-- The condition field of an ARM word. -/
def Cond.bits (c : Cond) : BitVec 4 := BitVec.ofNat 4 c.code

@[simp] theorem Cond.ofCode_bits (c : Cond) : Cond.ofCode c.bits.toNat = c := by cases c <;> rfl

/-- The shift type field. -/
def ShiftType.bits (t : ShiftType) : BitVec 2 := BitVec.ofNat 2 t.code

@[simp] theorem ShiftType.ofCode_bits (t : ShiftType) : ShiftType.ofCode t.bits.toNat = t := by cases t <;> rfl

/-- The opcode field of data processing, rule R116. -/
def DpOp.bits : DpOp → BitVec 4
  | .and => 0 | .eor => 1 | .sub => 2 | .rsb => 3 | .add => 4 | .adc => 5 | .sbc => 6 | .rsc => 7
  | .tst => 8 | .teq => 9 | .cmp => 10 | .cmn => 11 | .orr => 12 | .mov => 13 | .bic => 14 | .mvn => 15

@[simp] theorem DpOp.ofCode_bits (op : DpOp) : DpOp.ofCode op.bits.toNat = op := by cases op <;> rfl

theorem DpOp.bits_ofCode : ∀ {k : Nat}, k < 16 → (DpOp.ofCode k).bits.toNat = k := by decide

end Sys2Proof
end

section
/-! PROOFS. The ARM decoder drops no bit: for each part of the decoder, the instruction it answers has the word as its code, because
the operands and the fixed bits of its row are windows that cover the word. -/

namespace Sys2Proof

/-! ## The data processing formats -/

/-- The code of a data processing instruction with an immediate operand, for TST, TEQ, CMP and CMN with S. -/
theorem encode_mkDpImm {op : DpOp} {s : Bool} (hs : Machine.dpWrites op = true ∨ s = true) (cond : Cond) (rn rd : Reg)
    (rot : BitVec 4) (imm : BitVec 8) :
    encode (mkDpImm op cond s rn rd rot imm) =
      .arm (pack 0x2000000 [(cond.code, 28), (op.bits.toNat, 21), (s.toNat, 20), (rn.toNat, 16), (rd.toNat, 12), (rot.toNat, 8),
        (imm.toNat, 0)]) := by
  cases op
  case tst | teq | cmp | cmn =>
    obtain rfl : s = true := hs.resolve_left (by decide)
    simp [mkDpImm, encode, pack, DpOp.bits]
    omega
  case and => simp [mkDpImm, encode, pack, DpOp.bits]
  all_goals
    simp [mkDpImm, encode, pack, DpOp.bits]
    omega

/-- As `encode_mkDpImm` for a register shifted by an immediate amount. -/
theorem encode_mkDpShi {op : DpOp} {s : Bool} (hs : Machine.dpWrites op = true ∨ s = true) (cond : Cond) (rn rd : Reg)
    (a : BitVec 5) (sh : ShiftType) (rm : Reg) :
    encode (mkDpShi op cond s rn rd a sh rm) =
      .arm (pack 0 [(cond.code, 28), (op.bits.toNat, 21), (s.toNat, 20), (rn.toNat, 16), (rd.toNat, 12), (a.toNat, 7), (sh.code, 5),
        (rm.toNat, 0)]) := by
  cases op
  case tst | teq | cmp | cmn =>
    obtain rfl : s = true := hs.resolve_left (by decide)
    simp [mkDpShi, encode, pack, DpOp.bits]
    omega
  case and => simp [mkDpShi, encode, pack, DpOp.bits]
  all_goals
    simp [mkDpShi, encode, pack, DpOp.bits]
    omega

/-- As `encode_mkDpImm` for a register shifted by a register. -/
theorem encode_mkDpShr {op : DpOp} {s : Bool} (hs : Machine.dpWrites op = true ∨ s = true) (cond : Cond) (rn rd rs : Reg)
    (sh : ShiftType) (rm : Reg) :
    encode (mkDpShr op cond s rn rd rs sh rm) =
      .arm (pack 0x10 [(cond.code, 28), (op.bits.toNat, 21), (s.toNat, 20), (rn.toNat, 16), (rd.toNat, 12), (rs.toNat, 8),
        (sh.code, 5), (rm.toNat, 0)]) := by
  cases op
  case tst | teq | cmp | cmn =>
    obtain rfl : s = true := hs.resolve_left (by decide)
    simp [mkDpShr, encode, pack, DpOp.bits]
    omega
  case and => simp [mkDpShr, encode, pack, DpOp.bits]
  all_goals
    simp [mkDpShr, encode, pack, DpOp.bits]
    omega

theorem isStatusOpcode_iff (n : Nat) : isStatusOpcode n = true ↔ fld n 23 2 = 2 ∧ fld n 20 1 = 0 := decide_eq_true_iff

/-- Outside the status opcodes, TST, TEQ, CMP and CMN have S. -/
theorem writes_or_s_of_not_status {n : Nat} (h : ¬ isStatusOpcode n = true) :
    Machine.dpWrites (DpOp.ofCode (fld n 21 4)) = true ∨ fbit n 20 = true := by
  have htest : ∀ k < 16, Machine.dpWrites (DpOp.ofCode k) = true ∨ k / 4 = 2 := by decide
  have hop : fld n 21 4 = fld n 21 2 + 2^2 * fld n 23 2 := fld_add n 21 2 2
  rw [isStatusOpcode_iff] at h
  rcases htest _ (fld_lt n 21 4) with hw | hk
  · exact .inl hw
  · have := fld_lt n 21 2
    rcases fld_one_cases n 20 with h20 | h20
    · omega
    · exact .inr (by rw [fbit_eq, h20]; rfl)

/-! ## ARM words, by the parts of the decoder

In each case the word is cut into the windows of the format, and its code is a sum of the same windows and the fixed bits. -/

section
variable {n : Nat} {i : Instr}

theorem encode_of_decodeMultiplySpace (hn : n < 2^32) (h25 : fld n 25 3 = 0) (h4 : fld n 4 1 = 1) (h7 : fld n 7 1 = 1)
    (h5 : fld n 5 2 = 0) (h : decodeMultiplySpace n (Cond.ofCode (fld n 28 4)) = .ok i) : encode i = .arm n := by
  have hw := eq_glue [4, 1, 2, 1, 4, 4, 4, 1, 4, 3, 4] hn
  simp only [glue, Nat.reduceAdd] at hw
  unfold decodeMultiplySpace at h
  dsimp only at h
  split at h
  case h_7 | h_8 =>
    split at h <;> cases h
    simp only [encode, pack, code_cond_fld, toNat_freg]
    congr 1
    omega
  case h_9 => cases h
  all_goals
    cases h
    simp only [encode, pack, code_cond_fld, toNat_freg, toNat_fbit]
    congr 1
    omega

/-- The two halves of the offset of a halfword transfer. -/
theorem split_offset_fld (n : Nat) : (BitVec.ofNat 8 (fld n 8 4 * 16 + fld n 0 4)).toNat / 16 = fld n 8 4 ∧
    (BitVec.ofNat 8 (fld n 8 4 * 16 + fld n 0 4)).toNat % 16 = fld n 0 4 := by
  have := fld_lt n 8 4
  have := fld_lt n 0 4
  rw [BitVec.toNat_ofNat]
  omega

theorem encode_of_decodeHalfwordSpace (hn : n < 2^32) (h25 : fld n 25 3 = 0) (h4 : fld n 4 1 = 1) (h7 : fld n 7 1 = 1)
    (h5 : fld n 5 2 ≠ 0) (h : decodeHalfwordSpace n (Cond.ofCode (fld n 28 4)) = .ok i) : encode i = .arm n := by
  have hw := eq_glue [4, 1, 2, 1, 4, 4, 4, 1, 1, 1, 1, 1, 3, 4] hn
  simp only [glue, Nat.reduceAdd] at hw
  have hsh : fld n 5 2 = 1 ∨ fld n 5 2 = 2 ∨ fld n 5 2 = 3 := by
    have := fld_lt n 5 2
    omega
  obtain ⟨hhi, hlo⟩ := split_offset_fld n
  unfold decodeHalfwordSpace at h
  dsimp only at h
  split at h
  · split at h
    · cases h
    · rcases fld_one_cases n 20 with h20 | h20 <;> rcases hsh with h5 | h5 | h5 <;> rw [h20, h5] at h <;> cases h
      all_goals
        simp only [encode, pack, code_cond_fld, toNat_freg, toNat_fbit]
        congr 1
        omega
  · have h22 := fld_one_cases n 22
    rcases fld_one_cases n 20 with h20 | h20 <;> rcases hsh with h5 | h5 | h5 <;> rw [h20, h5] at h <;> cases h
    all_goals
      simp only [encode, pack, code_cond_fld, toNat_freg, toNat_fbit, hhi, hlo]
      congr 1
      omega

theorem encode_of_decodeStatusSpace (hn : n < 2^32) (h25 : fld n 25 3 = 0) (h23 : fld n 23 2 = 2)
    (h : decodeStatusSpace n (Cond.ofCode (fld n 28 4)) = .ok i) : encode i = .arm n := by
  unfold decodeStatusSpace at h
  split at h
  case isTrue h4 =>
    cases h
    have hw := eq_glue [4, 24, 4] hn
    simp only [glue, Nat.reduceAdd] at hw
    simp only [encode, pack, code_cond_fld, toNat_freg]
    congr 1
    omega
  case isFalse =>
    split at h
    case isTrue hmrs =>
      cases h
      have hw := eq_glue [12, 4, 4, 2, 1, 2, 3, 4] hn
      simp only [glue, Nat.reduceAdd] at hw
      simp only [encode, pack, code_cond_fld, toNat_freg, toNat_fbit]
      congr 1
      omega
    case isFalse =>
      split at h <;> cases h
      have hw := eq_glue [4, 8, 4, 4, 2, 1, 2, 3, 4] hn
      simp only [glue, Nat.reduceAdd] at hw
      simp only [encode, pack, code_cond_fld, toNat_freg, toNat_fbit, toNat_ofNat_fld]
      congr 1
      omega

theorem encode_of_decodeArm000 (hn : n < 2^32) (h25 : fld n 25 3 = 0)
    (h : decodeArm000 n (Cond.ofCode (fld n 28 4)) = .ok i) : encode i = .arm n := by
  unfold decodeArm000 at h
  dsimp only at h
  split at h
  case isTrue h47 =>
    obtain ⟨h4, h7⟩ := h47
    split at h
    case isTrue h5 => exact encode_of_decodeMultiplySpace hn h25 h4 h7 h5 h
    case isFalse h5 => exact encode_of_decodeHalfwordSpace hn h25 h4 h7 h5 h
  case isFalse h47 =>
    split at h
    case isTrue hst =>
      obtain ⟨h23, _⟩ := (isStatusOpcode_iff n).mp hst
      exact encode_of_decodeStatusSpace hn h25 h23 h
    case isFalse hst =>
      have hs := writes_or_s_of_not_status hst
      split at h
      case isTrue h4 =>
        cases h
        have hw := eq_glue [4, 1, 2, 5, 4, 4, 1, 4, 3, 4] hn
        simp only [glue, Nat.reduceAdd] at hw
        rw [encode_mkDpShi hs]
        simp only [pack, code_cond_fld, code_shift_fld, DpOp.bits_ofCode (fld_lt n 21 4), toNat_freg, toNat_fbit, toNat_ofNat_fld]
        congr 1
        omega
      case isFalse h4 =>
        cases h
        have hw := eq_glue [4, 1, 2, 1, 4, 4, 4, 1, 4, 3, 4] hn
        simp only [glue, Nat.reduceAdd] at hw
        have h4 := (fld_one_cases n 4).resolve_left h4
        have h7 := (fld_one_cases n 7).resolve_right fun h7 => h47 ⟨h4, h7⟩
        rw [encode_mkDpShr hs]
        simp only [pack, code_cond_fld, code_shift_fld, DpOp.bits_ofCode (fld_lt n 21 4), toNat_freg, toNat_fbit]
        congr 1
        omega

theorem encode_of_decodeArm001 (hn : n < 2^32) (h25 : fld n 25 3 = 1)
    (h : decodeArm001 n (Cond.ofCode (fld n 28 4)) = .ok i) : encode i = .arm n := by
  unfold decodeArm001 at h
  dsimp only at h
  split at h
  case isTrue hst =>
    obtain ⟨h23, h20⟩ := (isStatusOpcode_iff n).mp hst
    split at h <;> cases h
    have hw := eq_glue [8, 4, 4, 4, 1, 1, 1, 2, 3, 4] hn
    simp only [glue, Nat.reduceAdd] at hw
    simp only [encode, pack, code_cond_fld, toNat_fbit, toNat_ofNat_fld]
    congr 1
    omega
  case isFalse hst =>
    cases h
    have hw := eq_glue [8, 4, 4, 4, 1, 4, 3, 4] hn
    simp only [glue, Nat.reduceAdd] at hw
    rw [encode_mkDpImm (writes_or_s_of_not_status hst)]
    simp only [pack, code_cond_fld, DpOp.bits_ofCode (fld_lt n 21 4), toNat_freg, toNat_fbit, toNat_ofNat_fld]
    congr 1
    omega

theorem encode_decodeArm010 (hn : n < 2^32) (h25 : fld n 25 3 = 2) :
    encode (decodeArm010 n (Cond.ofCode (fld n 28 4))) = .arm n := by
  have hw := eq_glue [12, 4, 4, 1, 1, 1, 1, 1, 3, 4] hn
  simp only [glue, Nat.reduceAdd] at hw
  rcases fld_one_cases n 24 with hp | hp <;> rcases fld_one_cases n 22 with hb | hb <;>
    rcases fld_one_cases n 20 with hl | hl <;> rcases fld_one_cases n 21 with ht | ht
  all_goals
    simp only [decodeArm010, hp, hb, hl, ht, encode, pack, code_cond_fld, toNat_freg, toNat_fbit, toNat_ofNat_fld]
    congr 1
    omega

theorem encode_decodeArm011 (hn : n < 2^32) (h25 : fld n 25 3 = 3) :
    encode (decodeArm011 n (Cond.ofCode (fld n 28 4))) = .arm n := by
  rcases fld_one_cases n 4 with h4 | h4
  · have hw := eq_glue [4, 1, 2, 5, 4, 4, 1, 1, 1, 1, 1, 3, 4] hn
    simp only [glue, Nat.reduceAdd] at hw
    rcases fld_one_cases n 24 with hp | hp <;> rcases fld_one_cases n 22 with hb | hb <;>
      rcases fld_one_cases n 20 with hl | hl <;> rcases fld_one_cases n 21 with ht | ht
    all_goals
      simp only [decodeArm011, h4, Nat.zero_ne_one, if_false, hp, hb, hl, ht, encode, pack, code_cond_fld, code_shift_fld,
        toNat_freg, toNat_fbit, toNat_ofNat_fld]
      congr 1
      omega
  · have hw := eq_glue [4, 1, 20, 3, 4] hn
    simp only [glue, Nat.reduceAdd] at hw
    simp only [decodeArm011, h4, if_true, encode, pack, code_cond_fld, toNat_ofNat_fld]
    congr 1
    omega

theorem encode_decodeArm100 (hn : n < 2^32) (h25 : fld n 25 3 = 4) :
    encode (decodeArm100 n (Cond.ofCode (fld n 28 4))) = .arm n := by
  have hw := eq_glue [16, 4, 1, 1, 1, 2, 3, 4] hn
  simp only [glue, Nat.reduceAdd] at hw
  have hpu : fld n 23 2 = 0 ∨ fld n 23 2 = 1 ∨ fld n 23 2 = 2 ∨ fld n 23 2 = 3 := by
    have := fld_lt n 23 2
    omega
  rcases fld_one_cases n 20 with hl | hl <;> rcases hpu with hpu | hpu | hpu | hpu
  all_goals
    simp only [decodeArm100, hl, hpu, encode, pack, code_cond_fld, toNat_freg, toNat_fbit, toNat_ofNat_fld]
    congr 1
    omega

theorem encode_decodeArm110 (hn : n < 2^32) (h25 : fld n 25 3 = 6) :
    encode (decodeArm110 n (Cond.ofCode (fld n 28 4))) = .arm n := by
  have hw := eq_glue [8, 4, 4, 4, 1, 1, 1, 1, 1, 3, 4] hn
  simp only [glue, Nat.reduceAdd] at hw
  rcases fld_one_cases n 20 with hl | hl <;>
    simp only [decodeArm110, hl, Nat.zero_ne_one, if_true, if_false, encode, pack, code_cond_fld, toNat_freg, toNat_fbit,
      toNat_ofNat_fld] <;>
    congr 1 <;> omega

theorem encode_decodeArm111 (hn : n < 2^32) (h25 : fld n 25 3 = 7) :
    encode (decodeArm111 n (Cond.ofCode (fld n 28 4))) = .arm n := by
  unfold decodeArm111
  dsimp only
  split
  case isTrue h24 =>
    have hw := eq_glue [24, 1, 3, 4] hn
    simp only [glue, Nat.reduceAdd] at hw
    simp only [encode, pack, code_cond_fld, toNat_ofNat_fld]
    congr 1
    omega
  case isFalse h24 =>
    have h24 := (fld_one_cases n 24).resolve_right h24
    split
    case isTrue h4 =>
      have hw := eq_glue [4, 1, 3, 4, 4, 4, 4, 1, 3, 4] hn
      simp only [glue, Nat.reduceAdd] at hw
      simp only [encode, pack, code_cond_fld, toNat_ofNat_fld]
      congr 1
      omega
    case isFalse h4 =>
      have h4 := (fld_one_cases n 4).resolve_left h4
      have hw := eq_glue [4, 1, 3, 4, 4, 4, 1, 3, 1, 3, 4] hn
      simp only [glue, Nat.reduceAdd] at hw
      rcases fld_one_cases n 20 with h20 | h20 <;>
        simp only [h20, Nat.zero_ne_one, if_true, if_false, encode, pack, code_cond_fld, toNat_freg, toNat_ofNat_fld] <;>
        congr 1 <;> omega

theorem encode_of_decodeArm (hn : n < 2^32) (h : decodeArm n = .ok i) : encode i = .arm n := by
  unfold decodeArm at h
  dsimp only at h
  split at h
  case h_1 h25 => exact encode_of_decodeArm000 hn h25 h
  case h_2 h25 => exact encode_of_decodeArm001 hn h25 h
  case h_3 h25 =>
    cases h
    exact encode_decodeArm010 hn h25
  case h_4 h25 =>
    cases h
    exact encode_decodeArm011 hn h25
  case h_5 h25 =>
    cases h
    exact encode_decodeArm100 hn h25
  case h_6 h25 =>
    cases h
    have hw := eq_glue [24, 1, 3, 4] hn
    simp only [glue, Nat.reduceAdd] at hw
    rcases fld_one_cases n 24 with h24 | h24 <;>
      simp only [h24, Nat.zero_ne_one, if_true, if_false, encode, pack, code_cond_fld, toNat_ofNat_fld] <;>
      congr 1 <;> omega
  case h_7 h25 =>
    cases h
    exact encode_decodeArm110 hn h25
  case h_8 h0 h1 h2 h3 h4 h5 h6 =>
    cases h
    simp only [imp_false] at h0 h1 h2 h3 h4 h5 h6
    have := fld_lt n 25 3
    exact encode_decodeArm111 hn (by omega)


end

end Sys2Proof
end

section
/-! PROOFS. The Thumb decoder drops no bit, as the ARM decoder. -/

namespace Sys2Proof

section
variable {n : Nat} {i : Instr}

theorem encode_decodeThumbAlu (hn : n < 2^16) (h11 : fld n 11 5 = 8) (h10 : fld n 10 1 = 0) :
    encode (decodeThumbAlu n) = .thumb n := by
  have hw := eq_glue [3, 3, 4, 1, 5] hn
  simp only [glue, Nat.reduceAdd] at hw
  have := fld_lt n 6 4
  unfold decodeThumbAlu
  dsimp only
  split
  case h_16 =>
    simp only [imp_false] at *
    simp only [encode, pack, toNat_flreg]
    congr 1
    omega
  all_goals
    simp only [encode, pack, toNat_flreg]
    congr 1
    omega

/-- The two parts of the register number H1:Rd. -/
theorem split_high_register_fld (n : Nat) : (BitVec.ofNat 4 (fld n 7 1 * 8 + fld n 0 3)).toNat / 8 = fld n 7 1 ∧
    (BitVec.ofNat 4 (fld n 7 1 * 8 + fld n 0 3)).toNat % 8 = fld n 0 3 := by
  have := fld_lt n 7 1
  have := fld_lt n 0 3
  rw [BitVec.toNat_ofNat]
  omega

theorem encode_of_decodeThumbHigh (hn : n < 2^16) (h11 : fld n 11 5 = 8) (h10 : fld n 10 1 = 1)
    (h : decodeThumbHigh n = .ok i) : encode i = .thumb n := by
  have hw := eq_glue [3, 4, 1, 2, 1, 5] hn
  simp only [glue, Nat.reduceAdd] at hw
  have := fld_lt n 8 2
  obtain ⟨hhi, hlo⟩ := split_high_register_fld n
  unfold decodeThumbHigh at h
  dsimp only at h
  split at h
  case h_4 h0 h1 h2 =>
    simp only [imp_false] at h0 h1 h2
    split at h <;> cases h
    simp only [encode, pack, toNat_freg]
    congr 1
    omega
  all_goals
    cases h
    simp only [encode, pack, toNat_freg, hhi, hlo]
    congr 1
    omega

theorem encode_decodeThumbRegOffset (hn : n < 2^16) (h12 : fld n 12 4 = 5) : encode (decodeThumbRegOffset n) = .thumb n := by
  have hw := eq_glue [3, 3, 3, 3, 4] hn
  simp only [glue, Nat.reduceAdd] at hw
  have := fld_lt n 9 3
  unfold decodeThumbRegOffset
  dsimp only
  split
  case h_8 =>
    simp only [imp_false] at *
    simp only [encode, pack, toNat_flreg]
    congr 1
    omega
  all_goals
    simp only [encode, pack, toNat_flreg]
    congr 1
    omega

theorem encode_of_decodeThumbMisc (hn : n < 2^16) (h12 : fld n 12 4 = 11) (h : decodeThumbMisc n = .ok i) :
    encode i = .thumb n := by
  unfold decodeThumbMisc at h
  dsimp only at h
  split at h
  case h_1 =>
    cases h
    have hw := eq_glue [7, 1, 4, 4] hn
    simp only [glue, Nat.reduceAdd] at hw
    rcases fld_one_cases n 7 with h7 | h7 <;>
      simp only [h7, Nat.one_ne_zero, if_true, if_false, encode, pack, toNat_ofNat_fld] <;>
      congr 1 <;> omega
  case h_6 => cases h
  all_goals
    cases h
    have hw := eq_glue [8, 4, 4] hn
    simp only [glue, Nat.reduceAdd] at hw
    simp only [encode, pack, Bool.toNat_true, Bool.toNat_false, toNat_ofNat_fld]
    congr 1
    omega

theorem encode_decodeThumbCond (hn : n < 2^16) (h12 : fld n 12 4 = 13) : encode (decodeThumbCond n) = .thumb n := by
  have hw := eq_glue [8, 4, 4] hn
  simp only [glue, Nat.reduceAdd] at hw
  have := fld_lt n 8 4
  unfold decodeThumbCond
  dsimp only
  split
  case h_16 =>
    simp only [imp_false] at *
    simp only [encode, pack, toNat_ofNat_fld]
    congr 1
    omega
  all_goals
    simp only [encode, pack, toNat_ofNat_fld]
    congr 1
    omega

theorem encode_of_decodeThumb (hn : n < 2^16) (h : decodeThumb n = .ok i) : encode i = .thumb n := by
  have h12 : fld n 11 5 = fld n 11 1 + 2 * fld n 12 4 := fld_add n 11 1 4
  have h11 := fld_lt n 11 1
  have hlt := fld_lt n 11 5
  unfold decodeThumb at h
  dsimp only at h
  split at h
  case h_1 | h_2 | h_3 | h_13 | h_14 | h_15 | h_16 | h_17 | h_18 =>
    cases h
    have hw := eq_glue [3, 3, 5, 5] hn
    simp only [glue, Nat.reduceAdd] at hw
    simp only [encode, pack, toNat_flreg, toNat_ofNat_fld]
    congr 1
    omega
  case h_4 =>
    have hw := eq_glue [3, 3, 3, 2, 5] hn
    simp only [glue, Nat.reduceAdd] at hw
    have hop : fld n 9 2 = 0 ∨ fld n 9 2 = 1 ∨ fld n 9 2 = 2 ∨ fld n 9 2 = 3 := by
      have := fld_lt n 9 2
      omega
    rcases hop with hop | hop | hop | hop <;> rw [hop] at h <;> cases h
    all_goals
      simp only [encode, pack, toNat_flreg]
      congr 1
      omega
  case h_5 | h_6 | h_7 | h_8 | h_10 | h_19 | h_20 | h_21 | h_22 | h_25 | h_26 =>
    cases h
    have hw := eq_glue [8, 3, 5] hn
    simp only [glue, Nat.reduceAdd] at hw
    simp only [encode, pack, toNat_flreg, toNat_ofNat_fld]
    congr 1
    omega
  case h_9 h8 =>
    split at h
    case isTrue h10 =>
      cases h
      exact encode_decodeThumbAlu hn h8 h10
    case isFalse h10 => exact encode_of_decodeThumbHigh hn h8 ((fld_one_cases n 10).resolve_left h10) h
  case h_11 | h_12 =>
    cases h
    exact encode_decodeThumbRegOffset hn (by omega)
  case h_23 | h_24 => exact encode_of_decodeThumbMisc hn (by omega) h
  case h_27 | h_28 =>
    cases h
    exact encode_decodeThumbCond hn (by omega)
  case h_30 => cases h
  case h_29 | h_31 =>
    cases h
    have hw := eq_glue [11, 5] hn
    simp only [glue, Nat.reduceAdd] at hw
    simp only [encode, pack, toNat_ofNat_fld]
    congr 1
    omega
  case h_32 =>
    simp only [imp_false] at *
    cases h
    have hw := eq_glue [11, 5] hn
    simp only [glue, Nat.reduceAdd] at hw
    simp only [encode, pack, toNat_ofNat_fld]
    congr 1
    omega

end

end Sys2Proof
end


section
/-! PROOFS. O3. -/

namespace Sys2Proof.Proofs

open Sys2Proof

/-- Settles O3: in both sets the windows that a part of the decoder reads cover the word. -/
theorem decodeThenEncode : Obligations.DecodeThenEncode := by
  unfold Obligations.DecodeThenEncode
  exact ⟨fun _ hn _ h => encode_of_decodeArm hn h, fun _ hn _ h => encode_of_decodeThumb hn h⟩

end Sys2Proof.Proofs
end

section
/-! PROOFS. Encoding and then decoding. By O3 it is enough to find some word that decodes to the instruction, so each format gives a
word made of its fields, and the decoder reads the fields back. -/

namespace Sys2Proof

/-- An ARM instruction that a word made of fields decodes to is what its own code decodes to. -/
theorem decode_encode_arm {i : Instr} (fs : List BitField) (hw : widthOf fs = 32)
    (h : ∀ n, Reads n 0 fs → decodeArm n = .ok i) : (encode i).decode = .ok i := by
  have hd := h _ (reads_wordOf fs)
  rw [encode_of_decodeArm (hw ▸ wordOf_lt fs) hd]
  exact hd

/-- As `decode_encode_arm` for a Thumb instruction. -/
theorem decode_encode_thumb {i : Instr} (fs : List BitField) (hw : widthOf fs = 16)
    (h : ∀ n, Reads n 0 fs → decodeThumb n = .ok i) : (encode i).decode = .ok i := by
  have hd := h _ (reads_wordOf fs)
  rw [encode_of_decodeThumb (hw ▸ wordOf_lt fs) hd]
  exact hd

/-! ## ARM formats

Each lemma lists the fields of its format, the lowest first. Where several rows share a format, its hypothesis is what the part of
the decoder makes of these fields; that is evaluated for each row. -/

section
variable {i : Instr} (cond : Cond)

/-- Format A1. -/
theorem decode_encode_bx (rm : Reg) : (encode (.bx cond rm)).decode = .ok (.bx cond rm) := by
  refine decode_encode_arm [⟨4, rm⟩, ⟨24, 0x12FFF1⟩, ⟨4, cond.bits⟩] rfl fun n hn => ?_
  obtain ⟨h0, h4 : fld n 4 24 = 0x12FFF1, h28, -⟩ := hn
  have h25 : fld n 25 3 = 0 := by
    rw [← fld_fld n 4 21 3 0, h4]
    rfl
  have h7 : fld n 7 1 = 0 := by
    rw [← fld_fld n 4 3 1 20, h4]
    rfl
  have h23 : fld n 23 2 = 2 := by
    rw [← fld_fld n 4 19 2 3, h4]
    rfl
  have h20 : fld n 20 1 = 0 := by
    rw [← fld_fld n 4 16 1 7, h4]
    rfl
  simp [decodeArm, decodeArm000, decodeStatusSpace, isStatusOpcode, freg, h0, h4, h7, h20, h23, h25, h28]

/-- Formats A2, A3 and A4. -/
theorem decode_encode_multiply (op : BitVec 4) (s : Bool) (rdHi rdLo rs rm : Reg)
    (h : ∀ n, fld n 21 4 = op.toNat → fld n 20 1 = s.toNat → fld n 16 4 = rdHi.toNat → fld n 12 4 = rdLo.toNat →
      fld n 8 4 = rs.toNat → fld n 0 4 = rm.toNat → decodeMultiplySpace n cond = .ok i := by
        simp +contextual [decodeMultiplySpace, freg, fbit_eq]) : (encode i).decode = .ok i := by
  refine decode_encode_arm [⟨4, rm⟩, ⟨1, 1⟩, ⟨2, 0⟩, ⟨1, 1⟩, ⟨4, rs⟩, ⟨4, rdLo⟩, ⟨4, rdHi⟩, ⟨1, .ofBool s⟩, ⟨4, op⟩, ⟨3, 0⟩,
    ⟨4, cond.bits⟩] rfl fun n hn => ?_
  obtain ⟨h0, h4, h5, h7, h8, h12, h16, h20, h21, h25, h28, -⟩ := hn
  rw [← h n h21 (by simpa using h20) h16 h12 h8 h0]
  simp_all [decodeArm, decodeArm000]

/-- Formats A5 and A6. -/
theorem decode_encode_halfword (p u imm w l : Bool) (rn rd : Reg) (hi : BitVec 4) (sh : BitVec 2) (lo : BitVec 4) (hsh : sh ≠ 0)
    (h : ∀ n, fld n 24 1 = p.toNat → fld n 23 1 = u.toNat → fld n 22 1 = imm.toNat → fld n 21 1 = w.toNat →
      fld n 20 1 = l.toNat → fld n 16 4 = rn.toNat → fld n 12 4 = rd.toNat → fld n 8 4 = hi.toNat → fld n 5 2 = sh.toNat →
      fld n 0 4 = lo.toNat → decodeHalfwordSpace n cond = .ok i := by
        simp +contextual [decodeHalfwordSpace, freg, fbit_eq]) : (encode i).decode = .ok i := by
  refine decode_encode_arm [⟨4, lo⟩, ⟨1, 1⟩, ⟨2, sh⟩, ⟨1, 1⟩, ⟨4, hi⟩, ⟨4, rd⟩, ⟨4, rn⟩, ⟨1, .ofBool l⟩, ⟨1, .ofBool w⟩,
    ⟨1, .ofBool imm⟩, ⟨1, .ofBool u⟩, ⟨1, .ofBool p⟩, ⟨3, 0⟩, ⟨4, cond.bits⟩] rfl fun n hn => ?_
  obtain ⟨h0, h4, h5, h7, h8, h12, h16, h20, h21, h22, h23, h24, h25, h28, -⟩ := hn
  have hne : sh.toNat ≠ 0 := fun e => hsh (BitVec.eq_of_toNat_eq e)
  rw [BitVec.toNat_ofBool] at h20 h21 h22 h23 h24
  rw [← h n h24 h23 h22 h21 h20 h16 h12 h8 h5 h0]
  simp_all [decodeArm, decodeArm000]

/-- Format A6: the offset is split in two. -/
theorem decode_encode_halfwordImm (p u w l : Bool) (rn rd : Reg) (sh : BitVec 2) (off : BitVec 8) (hsh : sh ≠ 0)
    (h : ∀ n, fld n 24 1 = p.toNat → fld n 23 1 = u.toNat → fld n 22 1 = 1 → fld n 21 1 = w.toNat → fld n 20 1 = l.toNat →
      fld n 16 4 = rn.toNat → fld n 12 4 = rd.toNat → BitVec.ofNat 8 (fld n 8 4 * 16 + fld n 0 4) = off → fld n 5 2 = sh.toNat →
      decodeHalfwordSpace n cond = .ok i := by
        simp +contextual [decodeHalfwordSpace, freg, fbit_eq]) : (encode i).decode = .ok i := by
  refine decode_encode_halfword cond p u true w l rn rd (off.extractLsb' 4 4) sh (off.extractLsb' 0 4) hsh
    fun n h24 h23 h22 h21 h20 h16 h12 h8 h5 h0 => h n h24 h23 h22 h21 h20 h16 h12 ?_ h5
  rw [h8, h0, BitVec.extractLsb'_toNat, BitVec.extractLsb'_toNat, Nat.shiftRight_eq_div_pow, Nat.shiftRight_zero,
    Nat.mod_eq_of_lt (by have := off.isLt; omega), Nat.div_add_mod', BitVec.ofNat_toNat, BitVec.setWidth_eq]

/-- Format A7. -/
theorem decode_encode_mrs (r : Bool) (rd : Reg) : (encode (.mrs cond r rd)).decode = .ok (.mrs cond r rd) := by
  refine decode_encode_arm [⟨12, 0⟩, ⟨4, rd⟩, ⟨4, 15⟩, ⟨2, 0⟩, ⟨1, .ofBool r⟩, ⟨2, 2⟩, ⟨3, 0⟩, ⟨4, cond.bits⟩] rfl fun n hn => ?_
  obtain ⟨h0 : fld n 0 12 = 0, h12, h16, h20 : fld n 20 2 = 0, h22, h23, h25, h28, -⟩ := hn
  have h4 : fld n 4 1 = 0 := by
    rw [← fld_fld n 0 4 1 7, h0]
    rfl
  have h20' : fld n 20 1 = 0 := by
    rw [← fld_fld n 20 0 1 1, h20]
    rfl
  have hbx : fld n 4 24 ≠ 0x12FFF1 := fun e => by
    rw [← fld_fld n 4 0 1 23, e] at h4
    exact absurd h4 (by decide)
  simp_all [decodeArm, decodeArm000, decodeStatusSpace, isStatusOpcode, freg, fbit_eq]

/-- Format A8. -/
theorem decode_encode_msrReg (r : Bool) (mask : BitVec 4) (rm : Reg) :
    (encode (.msrReg cond r mask rm)).decode = .ok (.msrReg cond r mask rm) := by
  refine decode_encode_arm [⟨4, rm⟩, ⟨8, 0⟩, ⟨4, 15⟩, ⟨4, mask⟩, ⟨2, 2⟩, ⟨1, .ofBool r⟩, ⟨2, 2⟩, ⟨3, 0⟩, ⟨4, cond.bits⟩] rfl
    fun n hn => ?_
  obtain ⟨h0, h4 : fld n 4 8 = 0, h12, h16, h20 : fld n 20 2 = 2, h22, h23, h25, h28, -⟩ := hn
  have h4' : fld n 4 1 = 0 := by
    rw [← fld_fld n 4 0 1 7, h4]
    rfl
  have h20' : fld n 20 1 = 0 := by
    rw [← fld_fld n 20 0 1 1, h20]
    rfl
  have hbx : fld n 4 24 ≠ 0x12FFF1 := fun e => by
    rw [← fld_fld n 4 0 1 23, e] at h4'
    exact absurd h4' (by decide)
  simp_all [decodeArm, decodeArm000, decodeStatusSpace, isStatusOpcode, freg, fbit_eq]

/-- Format A9. -/
theorem decode_encode_msrImm (r : Bool) (mask rot : BitVec 4) (imm : BitVec 8) :
    (encode (.msrImm cond r mask rot imm)).decode = .ok (.msrImm cond r mask rot imm) := by
  refine decode_encode_arm [⟨8, imm⟩, ⟨4, rot⟩, ⟨4, 15⟩, ⟨4, mask⟩, ⟨1, 0⟩, ⟨1, 1⟩, ⟨1, .ofBool r⟩, ⟨2, 2⟩, ⟨3, 1⟩,
    ⟨4, cond.bits⟩] rfl fun n hn => ?_
  obtain ⟨h0, h8, h12, h16, h20, h21, h22, h23, h25, h28, -⟩ := hn
  simp_all [decodeArm, decodeArm001, isStatusOpcode, fbit_eq]

/-- The S bit of a data processing word: TST, TEQ, CMP and CMN always have it. -/
def sBit (op : DpOp) (s : Bool) : Bool := s || !Machine.dpWrites op

theorem not_isStatusOpcode {n : Nat} {op : DpOp} {s : Bool} (hop : fld n 21 4 = op.bits.toNat)
    (hs : fld n 20 1 = (sBit op s).toNat) : isStatusOpcode n = false := by
  have htest : op.bits.toNat / 4 = 2 → Machine.dpWrites op = false := by cases op <;> decide
  have h21 : fld n 21 4 = fld n 21 2 + 2^2 * fld n 23 2 := fld_add n 21 2 2
  have hlt := fld_lt n 21 2
  refine Bool.eq_false_iff.mpr fun h => ?_
  obtain ⟨h23, h20⟩ := (isStatusOpcode_iff n).mp h
  have := htest (by omega)
  simp [sBit, this, h20] at hs

/-- Format A10. -/
theorem decode_encode_dpImm (op : DpOp) (s : Bool) (rn rd : Reg) (rot : BitVec 4) (imm : BitVec 8) :
    (encode (mkDpImm op cond s rn rd rot imm)).decode = .ok (mkDpImm op cond s rn rd rot imm) := by
  have hmk : mkDpImm op cond (sBit op s) rn rd rot imm = mkDpImm op cond s rn rd rot imm := by
    cases op <;> simp [mkDpImm, sBit, Machine.dpWrites]
  refine decode_encode_arm [⟨8, imm⟩, ⟨4, rot⟩, ⟨4, rd⟩, ⟨4, rn⟩, ⟨1, .ofBool (sBit op s)⟩, ⟨4, op.bits⟩, ⟨3, 1⟩, ⟨4, cond.bits⟩]
    rfl fun n hn => ?_
  obtain ⟨h0, h8, h12, h16, h20, h21, h25, h28, -⟩ := hn
  rw [BitVec.toNat_ofBool] at h20
  simp_all [decodeArm, decodeArm001, not_isStatusOpcode h21 h20, freg, fbit_eq]

/-- Format A11. -/
theorem decode_encode_dpShi (op : DpOp) (s : Bool) (rn rd : Reg) (a : BitVec 5) (sh : ShiftType) (rm : Reg) :
    (encode (mkDpShi op cond s rn rd a sh rm)).decode = .ok (mkDpShi op cond s rn rd a sh rm) := by
  have hmk : mkDpShi op cond (sBit op s) rn rd a sh rm = mkDpShi op cond s rn rd a sh rm := by
    cases op <;> simp [mkDpShi, sBit, Machine.dpWrites]
  refine decode_encode_arm [⟨4, rm⟩, ⟨1, 0⟩, ⟨2, sh.bits⟩, ⟨5, a⟩, ⟨4, rd⟩, ⟨4, rn⟩, ⟨1, .ofBool (sBit op s)⟩, ⟨4, op.bits⟩,
    ⟨3, 0⟩, ⟨4, cond.bits⟩] rfl fun n hn => ?_
  obtain ⟨h0, h4, h5, h7, h12, h16, h20, h21, h25, h28, -⟩ := hn
  rw [BitVec.toNat_ofBool] at h20
  simp_all [decodeArm, decodeArm000, not_isStatusOpcode h21 h20, freg, fbit_eq]

/-- Format A12. -/
theorem decode_encode_dpShr (op : DpOp) (s : Bool) (rn rd rs : Reg) (sh : ShiftType) (rm : Reg) :
    (encode (mkDpShr op cond s rn rd rs sh rm)).decode = .ok (mkDpShr op cond s rn rd rs sh rm) := by
  have hmk : mkDpShr op cond (sBit op s) rn rd rs sh rm = mkDpShr op cond s rn rd rs sh rm := by
    cases op <;> simp [mkDpShr, sBit, Machine.dpWrites]
  refine decode_encode_arm [⟨4, rm⟩, ⟨1, 1⟩, ⟨2, sh.bits⟩, ⟨1, 0⟩, ⟨4, rs⟩, ⟨4, rd⟩, ⟨4, rn⟩, ⟨1, .ofBool (sBit op s)⟩,
    ⟨4, op.bits⟩, ⟨3, 0⟩, ⟨4, cond.bits⟩] rfl fun n hn => ?_
  obtain ⟨h0, h4, h5, h7, h8, h12, h16, h20, h21, h25, h28, -⟩ := hn
  rw [BitVec.toNat_ofBool] at h20
  simp_all [decodeArm, decodeArm000, not_isStatusOpcode h21 h20, freg, fbit_eq]

/-- Format A13. -/
theorem decode_encode_transferImm (p u b w l : Bool) (rn rd : Reg) (off : BitVec 12)
    (h : ∀ n, fld n 24 1 = p.toNat → fld n 23 1 = u.toNat → fld n 22 1 = b.toNat → fld n 21 1 = w.toNat → fld n 20 1 = l.toNat →
      fld n 16 4 = rn.toNat → fld n 12 4 = rd.toNat → fld n 0 12 = off.toNat → decodeArm010 n cond = i := by
        simp +contextual [decodeArm010, freg, fbit_eq]) : (encode i).decode = .ok i := by
  refine decode_encode_arm [⟨12, off⟩, ⟨4, rd⟩, ⟨4, rn⟩, ⟨1, .ofBool l⟩, ⟨1, .ofBool w⟩, ⟨1, .ofBool b⟩, ⟨1, .ofBool u⟩,
    ⟨1, .ofBool p⟩, ⟨3, 2⟩, ⟨4, cond.bits⟩] rfl fun n hn => ?_
  obtain ⟨h0, h12, h16, h20, h21, h22, h23, h24, h25, h28, -⟩ := hn
  rw [BitVec.toNat_ofBool] at h20 h21 h22 h23 h24
  rw [← h n h24 h23 h22 h21 h20 h16 h12 h0]
  simp_all [decodeArm]

/-- Format A14. -/
theorem decode_encode_transferReg (p u b w l : Bool) (rn rd : Reg) (a : BitVec 5) (sh : ShiftType) (rm : Reg)
    (h : ∀ n, fld n 24 1 = p.toNat → fld n 23 1 = u.toNat → fld n 22 1 = b.toNat → fld n 21 1 = w.toNat → fld n 20 1 = l.toNat →
      fld n 16 4 = rn.toNat → fld n 12 4 = rd.toNat → fld n 7 5 = a.toNat → fld n 5 2 = sh.bits.toNat → fld n 4 1 = 0 →
      fld n 0 4 = rm.toNat → decodeArm011 n cond = i := by
        simp +contextual [decodeArm011, freg, fbit_eq]) : (encode i).decode = .ok i := by
  refine decode_encode_arm [⟨4, rm⟩, ⟨1, 0⟩, ⟨2, sh.bits⟩, ⟨5, a⟩, ⟨4, rd⟩, ⟨4, rn⟩, ⟨1, .ofBool l⟩, ⟨1, .ofBool w⟩,
    ⟨1, .ofBool b⟩, ⟨1, .ofBool u⟩, ⟨1, .ofBool p⟩, ⟨3, 3⟩, ⟨4, cond.bits⟩] rfl fun n hn => ?_
  obtain ⟨h0, h4, h5, h7, h12, h16, h20, h21, h22, h23, h24, h25, h28, -⟩ := hn
  rw [BitVec.toNat_ofBool] at h20 h21 h22 h23 h24
  rw [← h n h24 h23 h22 h21 h20 h16 h12 h7 h5 h4 h0]
  simp_all [decodeArm]

/-- Format A15. -/
theorem decode_encode_undefined (hi : BitVec 20) (lo : BitVec 4) :
    (encode (.undefined cond hi lo)).decode = .ok (.undefined cond hi lo) := by
  refine decode_encode_arm [⟨4, lo⟩, ⟨1, 1⟩, ⟨20, hi⟩, ⟨3, 3⟩, ⟨4, cond.bits⟩] rfl fun n hn => ?_
  obtain ⟨h0, h4, h5, h25, h28, -⟩ := hn
  simp_all [decodeArm, decodeArm011]

/-- Format A16. -/
theorem decode_encode_blockTransfer (pu : BitVec 2) (s w l : Bool) (rn : Reg) (list : BitVec 16)
    (h : ∀ n, fld n 23 2 = pu.toNat → fld n 22 1 = s.toNat → fld n 21 1 = w.toNat → fld n 20 1 = l.toNat →
      fld n 16 4 = rn.toNat → fld n 0 16 = list.toNat → decodeArm100 n cond = i := by
        simp +contextual [decodeArm100, freg, fbit_eq]) : (encode i).decode = .ok i := by
  refine decode_encode_arm [⟨16, list⟩, ⟨4, rn⟩, ⟨1, .ofBool l⟩, ⟨1, .ofBool w⟩, ⟨1, .ofBool s⟩, ⟨2, pu⟩, ⟨3, 4⟩, ⟨4, cond.bits⟩]
    rfl fun n hn => ?_
  obtain ⟨h0, h16, h20, h21, h22, h23, h25, h28, -⟩ := hn
  rw [BitVec.toNat_ofBool] at h20 h21 h22
  rw [← h n h23 h22 h21 h20 h16 h0]
  simp_all [decodeArm]

/-- Format A17. -/
theorem decode_encode_branch (l : Bool) (off : BitVec 24) (h : i = if l then .bl cond off else .b cond off) :
    (encode i).decode = .ok i := by
  refine decode_encode_arm [⟨24, off⟩, ⟨1, .ofBool l⟩, ⟨3, 5⟩, ⟨4, cond.bits⟩] rfl fun n hn => ?_
  obtain ⟨h0, h24, h25, h28, -⟩ := hn
  simp_all [decodeArm]

/-- Format A18. -/
theorem decode_encode_coprocessorTransfer (l p u long w : Bool) (rn : Reg) (crd num : BitVec 4) (off : BitVec 8)
    (h : i = if l then .ldc cond p u long w rn crd num off else .stc cond p u long w rn crd num off) :
    (encode i).decode = .ok i := by
  refine decode_encode_arm [⟨8, off⟩, ⟨4, num⟩, ⟨4, crd⟩, ⟨4, rn⟩, ⟨1, .ofBool l⟩, ⟨1, .ofBool w⟩, ⟨1, .ofBool long⟩, ⟨1, .ofBool u⟩,
    ⟨1, .ofBool p⟩, ⟨3, 6⟩, ⟨4, cond.bits⟩] rfl fun n hn => ?_
  obtain ⟨h0, h8, h12, h16, h20, h21, h22, h23, h24, h25, h28, -⟩ := hn
  simp_all [decodeArm, decodeArm110, freg, fbit_eq]

/-- Format A19. -/
theorem decode_encode_cdp (op1 crn crd num : BitVec 4) (op2 : BitVec 3) (crm : BitVec 4) :
    (encode (.cdp cond op1 crn crd num op2 crm)).decode = .ok (.cdp cond op1 crn crd num op2 crm) := by
  refine decode_encode_arm [⟨4, crm⟩, ⟨1, 0⟩, ⟨3, op2⟩, ⟨4, num⟩, ⟨4, crd⟩, ⟨4, crn⟩, ⟨4, op1⟩, ⟨1, 0⟩, ⟨3, 7⟩, ⟨4, cond.bits⟩] rfl
    fun n hn => ?_
  obtain ⟨h0, h4, h5, h8, h12, h16, h20, h24, h25, h28, -⟩ := hn
  simp_all [decodeArm, decodeArm111]

/-- Format A20. -/
theorem decode_encode_registerTransfer (l : Bool) (op1 : BitVec 3) (crn : BitVec 4) (rd : Reg) (num : BitVec 4) (op2 : BitVec 3)
    (crm : BitVec 4) (h : i = if l then .mrc cond op1 crn rd num op2 crm else .mcr cond op1 crn rd num op2 crm) :
    (encode i).decode = .ok i := by
  refine decode_encode_arm [⟨4, crm⟩, ⟨1, 1⟩, ⟨3, op2⟩, ⟨4, num⟩, ⟨4, rd⟩, ⟨4, crn⟩, ⟨1, .ofBool l⟩, ⟨3, op1⟩, ⟨1, 0⟩, ⟨3, 7⟩,
    ⟨4, cond.bits⟩] rfl fun n hn => ?_
  obtain ⟨h0, h4, h5, h8, h12, h16, h20, h21, h24, h25, h28, -⟩ := hn
  simp_all [decodeArm, decodeArm111, freg]

/-- Format A21. -/
theorem decode_encode_swi (imm : BitVec 24) : (encode (.swi cond imm)).decode = .ok (.swi cond imm) := by
  refine decode_encode_arm [⟨24, imm⟩, ⟨1, 1⟩, ⟨3, 7⟩, ⟨4, cond.bits⟩] rfl fun n hn => ?_
  obtain ⟨h0, h24, h25, h28, -⟩ := hn
  simp_all [decodeArm, decodeArm111]

end

/-! ## Thumb formats -/

section
variable {i : Instr}

/-- Bits [15:12] select one of two values of bits [15:11]. -/
theorem fld_eleven_of_twelve {n k : Nat} (h : fld n 12 4 = k) : fld n 11 5 = 2 * k ∨ fld n 11 5 = 2 * k + 1 := by
  have h11 : fld n 11 5 = fld n 11 1 + 2 * fld n 12 4 := fld_add n 11 1 4
  rcases fld_one_cases n 11 with h1 | h1 <;> omega

theorem decodeThumb_regOffset {n : Nat} (h : fld n 12 4 = 5) : decodeThumb n = .ok (decodeThumbRegOffset n) := by
  rcases fld_eleven_of_twelve h with h | h <;> simp [decodeThumb, h]

theorem decodeThumb_misc {n : Nat} (h : fld n 12 4 = 11) : decodeThumb n = decodeThumbMisc n := by
  rcases fld_eleven_of_twelve h with h | h <;> simp [decodeThumb, h]

theorem decodeThumb_cond {n : Nat} (h : fld n 12 4 = 13) : decodeThumb n = .ok (decodeThumbCond n) := by
  rcases fld_eleven_of_twelve h with h | h <;> simp [decodeThumb, h]

/-- Formats T1, T9 and T10. -/
theorem decode_encode_thumbOffset5 (op : BitVec 5) (rd rs : LReg) (imm : BitVec 5)
    (h : ∀ n, fld n 11 5 = op.toNat → fld n 6 5 = imm.toNat → fld n 3 3 = rs.toNat → fld n 0 3 = rd.toNat → decodeThumb n = .ok i := by
      simp +contextual [decodeThumb, flreg]) : (encode i).decode = .ok i := by
  refine decode_encode_thumb [⟨3, rd⟩, ⟨3, rs⟩, ⟨5, imm⟩, ⟨5, op⟩] rfl fun n hn => ?_
  obtain ⟨h0, h3, h6, h11, -⟩ := hn
  exact h n h11 h6 h3 h0

/-- Format T2. -/
theorem decode_encode_thumbAddSub (op : BitVec 2) (rd rs r3 : BitVec 3)
    (h : ∀ n, fld n 11 5 = 3 → fld n 9 2 = op.toNat → fld n 6 3 = r3.toNat → fld n 3 3 = rs.toNat → fld n 0 3 = rd.toNat →
      decodeThumb n = .ok i := by
        simp +contextual [decodeThumb, flreg]) : (encode i).decode = .ok i := by
  refine decode_encode_thumb [⟨3, rd⟩, ⟨3, rs⟩, ⟨3, r3⟩, ⟨2, op⟩, ⟨5, 3⟩] rfl fun n hn => ?_
  obtain ⟨h0, h3, h6, h9, h11, -⟩ := hn
  exact h n h11 h9 h6 h3 h0

/-- Formats T3, T6, T11, T12 and T15. -/
theorem decode_encode_thumbImm8 (op : BitVec 5) (rx : LReg) (imm : BitVec 8)
    (h : ∀ n, fld n 11 5 = op.toNat → fld n 8 3 = rx.toNat → fld n 0 8 = imm.toNat → decodeThumb n = .ok i := by
      simp +contextual [decodeThumb, flreg]) : (encode i).decode = .ok i := by
  refine decode_encode_thumb [⟨8, imm⟩, ⟨3, rx⟩, ⟨5, op⟩] rfl fun n hn => ?_
  obtain ⟨h0, h8, h11, -⟩ := hn
  exact h n h11 h8 h0

/-- Format T4. -/
theorem decode_encode_thumbAlu (op : BitVec 4) (rd rs : LReg)
    (h : ∀ n, fld n 6 4 = op.toNat → fld n 3 3 = rs.toNat → fld n 0 3 = rd.toNat → decodeThumbAlu n = i := by
      simp +contextual [decodeThumbAlu, flreg]) : (encode i).decode = .ok i := by
  refine decode_encode_thumb [⟨3, rd⟩, ⟨3, rs⟩, ⟨4, op⟩, ⟨1, 0⟩, ⟨5, 8⟩] rfl fun n hn => ?_
  obtain ⟨h0, h3, h6, h10, h11, -⟩ := hn
  rw [← h n h6 h3 h0]
  simp_all [decodeThumb]

/-- Format T5. -/
theorem decode_encode_thumbHigh (op : BitVec 2) (h1 : BitVec 1) (rd : BitVec 3) (rs : Reg)
    (h : ∀ n, fld n 8 2 = op.toNat → fld n 7 1 = h1.toNat → fld n 3 4 = rs.toNat → fld n 0 3 = rd.toNat →
      decodeThumbHigh n = .ok i := by
        simp +contextual [decodeThumbHigh, freg]) : (encode i).decode = .ok i := by
  refine decode_encode_thumb [⟨3, rd⟩, ⟨4, rs⟩, ⟨1, h1⟩, ⟨2, op⟩, ⟨1, 1⟩, ⟨5, 8⟩] rfl fun n hn => ?_
  obtain ⟨h0, h3, h7, h8, h10, h11, -⟩ := hn
  rw [← h n h8 h7 h3 h0]
  simp_all [decodeThumb]

/-- Format T5 but for BX: H1 is the highest bit of the number of Rd. -/
theorem decode_encode_thumbHighRegister (op : BitVec 2) (rd rs : Reg)
    (h : ∀ n, fld n 8 2 = op.toNat → BitVec.ofNat 4 (fld n 7 1 * 8 + fld n 0 3) = rd → fld n 3 4 = rs.toNat →
      decodeThumbHigh n = .ok i := by
        simp +contextual [decodeThumbHigh, freg]) : (encode i).decode = .ok i := by
  refine decode_encode_thumbHigh op (rd.extractLsb' 3 1) (rd.extractLsb' 0 3) rs fun n h8 h7 h3 h0 => h n h8 ?_ h3
  rw [h7, h0, BitVec.extractLsb'_toNat, BitVec.extractLsb'_toNat, Nat.shiftRight_eq_div_pow, Nat.shiftRight_zero,
    Nat.mod_eq_of_lt (by have := rd.isLt; omega), Nat.div_add_mod', BitVec.ofNat_toNat, BitVec.setWidth_eq]

/-- Formats T7 and T8. -/
theorem decode_encode_thumbRegOffset (op : BitVec 3) (rd rb ro : LReg)
    (h : ∀ n, fld n 9 3 = op.toNat → fld n 6 3 = ro.toNat → fld n 3 3 = rb.toNat → fld n 0 3 = rd.toNat →
      decodeThumbRegOffset n = i := by
        simp +contextual [decodeThumbRegOffset, flreg]) : (encode i).decode = .ok i := by
  refine decode_encode_thumb [⟨3, rd⟩, ⟨3, rb⟩, ⟨3, ro⟩, ⟨3, op⟩, ⟨4, 5⟩] rfl fun n hn => ?_
  obtain ⟨h0, h3, h6, h9, h12, -⟩ := hn
  rw [decodeThumb_regOffset h12, h n h9 h6 h3 h0]

/-- Format T14. -/
theorem decode_encode_thumbMisc (op : BitVec 4) (imm : BitVec 8)
    (h : ∀ n, fld n 8 4 = op.toNat → fld n 0 8 = imm.toNat → decodeThumbMisc n = .ok i := by
      simp +contextual [decodeThumbMisc]) : (encode i).decode = .ok i := by
  refine decode_encode_thumb [⟨8, imm⟩, ⟨4, op⟩, ⟨4, 11⟩] rfl fun n hn => ?_
  obtain ⟨h0, h8, h12, -⟩ := hn
  rw [decodeThumb_misc h12, h n h8 h0]

/-- Format T13. -/
theorem decode_encode_thumbSp (s : Bool) (off : BitVec 7) (h : i = if s then .tDecSp off else .tIncSp off) :
    (encode i).decode = .ok i := by
  refine decode_encode_thumb [⟨7, off⟩, ⟨1, .ofBool s⟩, ⟨4, 0⟩, ⟨4, 11⟩] rfl fun n hn => ?_
  obtain ⟨h0, h7, h8, h12, -⟩ := hn
  rw [decodeThumb_misc h12]
  cases s <;> simp_all [decodeThumbMisc]

/-- Formats T16 and T17. -/
theorem decode_encode_thumbCond (op : BitVec 4) (imm : BitVec 8)
    (h : ∀ n, fld n 8 4 = op.toNat → fld n 0 8 = imm.toNat → decodeThumbCond n = i := by
      simp +contextual [decodeThumbCond]) : (encode i).decode = .ok i := by
  refine decode_encode_thumb [⟨8, imm⟩, ⟨4, op⟩, ⟨4, 13⟩] rfl fun n hn => ?_
  obtain ⟨h0, h8, h12, -⟩ := hn
  rw [decodeThumb_cond h12, h n h8 h0]

/-- Formats T18 and T19. -/
theorem decode_encode_thumbBranch (op : BitVec 5) (off : BitVec 11)
    (h : ∀ n, fld n 11 5 = op.toNat → fld n 0 11 = off.toNat → decodeThumb n = .ok i := by
      simp +contextual [decodeThumb]) : (encode i).decode = .ok i := by
  refine decode_encode_thumb [⟨11, off⟩, ⟨5, op⟩] rfl fun n hn => ?_
  obtain ⟨h0, h11, -⟩ := hn
  exact h n h11 h0


/-- Every instruction, well formed or not, is what its code decodes to. -/
theorem decode_encode (i : Instr) : (encode i).decode = .ok i := by
  cases i with
  | bx cond rm => exact decode_encode_bx cond rm
  | mul cond s rdHi rdLo rs rm => exact decode_encode_multiply cond 0 s rdHi rdLo rs rm
  | mla cond s rdHi rdLo rs rm => exact decode_encode_multiply cond 1 s rdHi rdLo rs rm
  | umull cond s rdHi rdLo rs rm => exact decode_encode_multiply cond 4 s rdHi rdLo rs rm
  | umlal cond s rdHi rdLo rs rm => exact decode_encode_multiply cond 5 s rdHi rdLo rs rm
  | smull cond s rdHi rdLo rs rm => exact decode_encode_multiply cond 6 s rdHi rdLo rs rm
  | smlal cond s rdHi rdLo rs rm => exact decode_encode_multiply cond 7 s rdHi rdLo rs rm
  | swp cond rn rd rm => exact decode_encode_multiply cond 8 false rn rd 0 rm
  | swpb cond rn rd rm => exact decode_encode_multiply cond 10 false rn rd 0 rm
  | strhReg cond p u w rn rd rm => exact decode_encode_halfword cond p u false w false rn rd 0 1 rm (by decide)
  | strhImm cond p u w rn rd off => exact decode_encode_halfwordImm cond p u w false rn rd 1 off (by decide)
  | ldrhReg cond p u w rn rd rm => exact decode_encode_halfword cond p u false w true rn rd 0 1 rm (by decide)
  | ldrhImm cond p u w rn rd off => exact decode_encode_halfwordImm cond p u w true rn rd 1 off (by decide)
  | ldrsbReg cond p u w rn rd rm => exact decode_encode_halfword cond p u false w true rn rd 0 2 rm (by decide)
  | ldrsbImm cond p u w rn rd off => exact decode_encode_halfwordImm cond p u w true rn rd 2 off (by decide)
  | ldrshReg cond p u w rn rd rm => exact decode_encode_halfword cond p u false w true rn rd 0 3 rm (by decide)
  | ldrshImm cond p u w rn rd off => exact decode_encode_halfwordImm cond p u w true rn rd 3 off (by decide)
  | mrs cond r rd => exact decode_encode_mrs cond r rd
  | msrReg cond r mask rm => exact decode_encode_msrReg cond r mask rm
  | msrImm cond r mask rot imm => exact decode_encode_msrImm cond r mask rot imm
  | andImm cond s rn rd rot imm => exact decode_encode_dpImm cond .and s rn rd rot imm
  | andShi cond s rn rd a sh rm => exact decode_encode_dpShi cond .and s rn rd a sh rm
  | andShr cond s rn rd rs sh rm => exact decode_encode_dpShr cond .and s rn rd rs sh rm
  | eorImm cond s rn rd rot imm => exact decode_encode_dpImm cond .eor s rn rd rot imm
  | eorShi cond s rn rd a sh rm => exact decode_encode_dpShi cond .eor s rn rd a sh rm
  | eorShr cond s rn rd rs sh rm => exact decode_encode_dpShr cond .eor s rn rd rs sh rm
  | subImm cond s rn rd rot imm => exact decode_encode_dpImm cond .sub s rn rd rot imm
  | subShi cond s rn rd a sh rm => exact decode_encode_dpShi cond .sub s rn rd a sh rm
  | subShr cond s rn rd rs sh rm => exact decode_encode_dpShr cond .sub s rn rd rs sh rm
  | rsbImm cond s rn rd rot imm => exact decode_encode_dpImm cond .rsb s rn rd rot imm
  | rsbShi cond s rn rd a sh rm => exact decode_encode_dpShi cond .rsb s rn rd a sh rm
  | rsbShr cond s rn rd rs sh rm => exact decode_encode_dpShr cond .rsb s rn rd rs sh rm
  | addImm cond s rn rd rot imm => exact decode_encode_dpImm cond .add s rn rd rot imm
  | addShi cond s rn rd a sh rm => exact decode_encode_dpShi cond .add s rn rd a sh rm
  | addShr cond s rn rd rs sh rm => exact decode_encode_dpShr cond .add s rn rd rs sh rm
  | adcImm cond s rn rd rot imm => exact decode_encode_dpImm cond .adc s rn rd rot imm
  | adcShi cond s rn rd a sh rm => exact decode_encode_dpShi cond .adc s rn rd a sh rm
  | adcShr cond s rn rd rs sh rm => exact decode_encode_dpShr cond .adc s rn rd rs sh rm
  | sbcImm cond s rn rd rot imm => exact decode_encode_dpImm cond .sbc s rn rd rot imm
  | sbcShi cond s rn rd a sh rm => exact decode_encode_dpShi cond .sbc s rn rd a sh rm
  | sbcShr cond s rn rd rs sh rm => exact decode_encode_dpShr cond .sbc s rn rd rs sh rm
  | rscImm cond s rn rd rot imm => exact decode_encode_dpImm cond .rsc s rn rd rot imm
  | rscShi cond s rn rd a sh rm => exact decode_encode_dpShi cond .rsc s rn rd a sh rm
  | rscShr cond s rn rd rs sh rm => exact decode_encode_dpShr cond .rsc s rn rd rs sh rm
  | tstImm cond rn rd rot imm => exact decode_encode_dpImm cond .tst true rn rd rot imm
  | tstShi cond rn rd a sh rm => exact decode_encode_dpShi cond .tst true rn rd a sh rm
  | tstShr cond rn rd rs sh rm => exact decode_encode_dpShr cond .tst true rn rd rs sh rm
  | teqImm cond rn rd rot imm => exact decode_encode_dpImm cond .teq true rn rd rot imm
  | teqShi cond rn rd a sh rm => exact decode_encode_dpShi cond .teq true rn rd a sh rm
  | teqShr cond rn rd rs sh rm => exact decode_encode_dpShr cond .teq true rn rd rs sh rm
  | cmpImm cond rn rd rot imm => exact decode_encode_dpImm cond .cmp true rn rd rot imm
  | cmpShi cond rn rd a sh rm => exact decode_encode_dpShi cond .cmp true rn rd a sh rm
  | cmpShr cond rn rd rs sh rm => exact decode_encode_dpShr cond .cmp true rn rd rs sh rm
  | cmnImm cond rn rd rot imm => exact decode_encode_dpImm cond .cmn true rn rd rot imm
  | cmnShi cond rn rd a sh rm => exact decode_encode_dpShi cond .cmn true rn rd a sh rm
  | cmnShr cond rn rd rs sh rm => exact decode_encode_dpShr cond .cmn true rn rd rs sh rm
  | orrImm cond s rn rd rot imm => exact decode_encode_dpImm cond .orr s rn rd rot imm
  | orrShi cond s rn rd a sh rm => exact decode_encode_dpShi cond .orr s rn rd a sh rm
  | orrShr cond s rn rd rs sh rm => exact decode_encode_dpShr cond .orr s rn rd rs sh rm
  | movImm cond s rn rd rot imm => exact decode_encode_dpImm cond .mov s rn rd rot imm
  | movShi cond s rn rd a sh rm => exact decode_encode_dpShi cond .mov s rn rd a sh rm
  | movShr cond s rn rd rs sh rm => exact decode_encode_dpShr cond .mov s rn rd rs sh rm
  | bicImm cond s rn rd rot imm => exact decode_encode_dpImm cond .bic s rn rd rot imm
  | bicShi cond s rn rd a sh rm => exact decode_encode_dpShi cond .bic s rn rd a sh rm
  | bicShr cond s rn rd rs sh rm => exact decode_encode_dpShr cond .bic s rn rd rs sh rm
  | mvnImm cond s rn rd rot imm => exact decode_encode_dpImm cond .mvn s rn rd rot imm
  | mvnShi cond s rn rd a sh rm => exact decode_encode_dpShi cond .mvn s rn rd a sh rm
  | mvnShr cond s rn rd rs sh rm => exact decode_encode_dpShr cond .mvn s rn rd rs sh rm
  | ldrImm cond u w rn rd off => exact decode_encode_transferImm cond true u false w true rn rd off
  | ldrImmPost cond u rn rd off => exact decode_encode_transferImm cond false u false false true rn rd off
  | ldrtImm cond u rn rd off => exact decode_encode_transferImm cond false u false true true rn rd off
  | ldrReg cond u w rn rd a sh rm => exact decode_encode_transferReg cond true u false w true rn rd a sh rm
  | ldrRegPost cond u rn rd a sh rm => exact decode_encode_transferReg cond false u false false true rn rd a sh rm
  | ldrtReg cond u rn rd a sh rm => exact decode_encode_transferReg cond false u false true true rn rd a sh rm
  | ldrbImm cond u w rn rd off => exact decode_encode_transferImm cond true u true w true rn rd off
  | ldrbImmPost cond u rn rd off => exact decode_encode_transferImm cond false u true false true rn rd off
  | ldrbtImm cond u rn rd off => exact decode_encode_transferImm cond false u true true true rn rd off
  | ldrbReg cond u w rn rd a sh rm => exact decode_encode_transferReg cond true u true w true rn rd a sh rm
  | ldrbRegPost cond u rn rd a sh rm => exact decode_encode_transferReg cond false u true false true rn rd a sh rm
  | ldrbtReg cond u rn rd a sh rm => exact decode_encode_transferReg cond false u true true true rn rd a sh rm
  | strImm cond u w rn rd off => exact decode_encode_transferImm cond true u false w false rn rd off
  | strImmPost cond u rn rd off => exact decode_encode_transferImm cond false u false false false rn rd off
  | strtImm cond u rn rd off => exact decode_encode_transferImm cond false u false true false rn rd off
  | strReg cond u w rn rd a sh rm => exact decode_encode_transferReg cond true u false w false rn rd a sh rm
  | strRegPost cond u rn rd a sh rm => exact decode_encode_transferReg cond false u false false false rn rd a sh rm
  | strtReg cond u rn rd a sh rm => exact decode_encode_transferReg cond false u false true false rn rd a sh rm
  | strbImm cond u w rn rd off => exact decode_encode_transferImm cond true u true w false rn rd off
  | strbImmPost cond u rn rd off => exact decode_encode_transferImm cond false u true false false rn rd off
  | strbtImm cond u rn rd off => exact decode_encode_transferImm cond false u true true false rn rd off
  | strbReg cond u w rn rd a sh rm => exact decode_encode_transferReg cond true u true w false rn rd a sh rm
  | strbRegPost cond u rn rd a sh rm => exact decode_encode_transferReg cond false u true false false rn rd a sh rm
  | strbtReg cond u rn rd a sh rm => exact decode_encode_transferReg cond false u true true false rn rd a sh rm
  | undefined cond hi lo => exact decode_encode_undefined cond hi lo
  | ldmda cond s w rn list => exact decode_encode_blockTransfer cond 0 s w true rn list
  | ldmia cond s w rn list => exact decode_encode_blockTransfer cond 1 s w true rn list
  | ldmdb cond s w rn list => exact decode_encode_blockTransfer cond 2 s w true rn list
  | ldmib cond s w rn list => exact decode_encode_blockTransfer cond 3 s w true rn list
  | stmda cond s w rn list => exact decode_encode_blockTransfer cond 0 s w false rn list
  | stmia cond s w rn list => exact decode_encode_blockTransfer cond 1 s w false rn list
  | stmdb cond s w rn list => exact decode_encode_blockTransfer cond 2 s w false rn list
  | stmib cond s w rn list => exact decode_encode_blockTransfer cond 3 s w false rn list
  | b cond off => exact decode_encode_branch cond false off rfl
  | bl cond off => exact decode_encode_branch cond true off rfl
  | ldc cond p u n w rn crd num off => exact decode_encode_coprocessorTransfer cond true p u n w rn crd num off rfl
  | stc cond p u n w rn crd num off => exact decode_encode_coprocessorTransfer cond false p u n w rn crd num off rfl
  | cdp cond op1 crn crd num op2 crm => exact decode_encode_cdp cond op1 crn crd num op2 crm
  | mcr cond op1 crn rd num op2 crm => exact decode_encode_registerTransfer cond false op1 crn rd num op2 crm rfl
  | mrc cond op1 crn rd num op2 crm => exact decode_encode_registerTransfer cond true op1 crn rd num op2 crm rfl
  | swi cond imm => exact decode_encode_swi cond imm
  | tLslImm rd rs imm => exact decode_encode_thumbOffset5 0 rd rs imm
  | tLsrImm rd rs imm => exact decode_encode_thumbOffset5 1 rd rs imm
  | tAsrImm rd rs imm => exact decode_encode_thumbOffset5 2 rd rs imm
  | tStrImm rd rs imm => exact decode_encode_thumbOffset5 12 rd rs imm
  | tLdrImm rd rs imm => exact decode_encode_thumbOffset5 13 rd rs imm
  | tStrbImm rd rs imm => exact decode_encode_thumbOffset5 14 rd rs imm
  | tLdrbImm rd rs imm => exact decode_encode_thumbOffset5 15 rd rs imm
  | tStrhImm rd rs imm => exact decode_encode_thumbOffset5 16 rd rs imm
  | tLdrhImm rd rs imm => exact decode_encode_thumbOffset5 17 rd rs imm
  | tAddReg rd rs r => exact decode_encode_thumbAddSub 0 rd rs r
  | tSubReg rd rs r => exact decode_encode_thumbAddSub 1 rd rs r
  | tAddImm3 rd rs r => exact decode_encode_thumbAddSub 2 rd rs r
  | tSubImm3 rd rs r => exact decode_encode_thumbAddSub 3 rd rs r
  | tMovImm r imm => exact decode_encode_thumbImm8 4 r imm
  | tCmpImm r imm => exact decode_encode_thumbImm8 5 r imm
  | tAddImm8 r imm => exact decode_encode_thumbImm8 6 r imm
  | tSubImm8 r imm => exact decode_encode_thumbImm8 7 r imm
  | tLdrPc r imm => exact decode_encode_thumbImm8 9 r imm
  | tStrSp r imm => exact decode_encode_thumbImm8 18 r imm
  | tLdrSp r imm => exact decode_encode_thumbImm8 19 r imm
  | tAddPc r imm => exact decode_encode_thumbImm8 20 r imm
  | tAddSp r imm => exact decode_encode_thumbImm8 21 r imm
  | tStmia r imm => exact decode_encode_thumbImm8 24 r imm
  | tLdmia r imm => exact decode_encode_thumbImm8 25 r imm
  | tAnd rd rs => exact decode_encode_thumbAlu 0 rd rs
  | tEor rd rs => exact decode_encode_thumbAlu 1 rd rs
  | tLslReg rd rs => exact decode_encode_thumbAlu 2 rd rs
  | tLsrReg rd rs => exact decode_encode_thumbAlu 3 rd rs
  | tAsrReg rd rs => exact decode_encode_thumbAlu 4 rd rs
  | tAdc rd rs => exact decode_encode_thumbAlu 5 rd rs
  | tSbc rd rs => exact decode_encode_thumbAlu 6 rd rs
  | tRorReg rd rs => exact decode_encode_thumbAlu 7 rd rs
  | tTst rd rs => exact decode_encode_thumbAlu 8 rd rs
  | tNeg rd rs => exact decode_encode_thumbAlu 9 rd rs
  | tCmpReg rd rs => exact decode_encode_thumbAlu 10 rd rs
  | tCmn rd rs => exact decode_encode_thumbAlu 11 rd rs
  | tOrr rd rs => exact decode_encode_thumbAlu 12 rd rs
  | tMul rd rs => exact decode_encode_thumbAlu 13 rd rs
  | tBic rd rs => exact decode_encode_thumbAlu 14 rd rs
  | tMvn rd rs => exact decode_encode_thumbAlu 15 rd rs
  | tAddHi rd rs => exact decode_encode_thumbHighRegister 0 rd rs
  | tCmpHi rd rs => exact decode_encode_thumbHighRegister 1 rd rs
  | tMovHi rd rs => exact decode_encode_thumbHighRegister 2 rd rs
  | tBx rs => exact decode_encode_thumbHigh 3 0 0 rs
  | tStrReg rd rb ro => exact decode_encode_thumbRegOffset 0 rd rb ro
  | tStrhReg rd rb ro => exact decode_encode_thumbRegOffset 1 rd rb ro
  | tStrbReg rd rb ro => exact decode_encode_thumbRegOffset 2 rd rb ro
  | tLdrsbReg rd rb ro => exact decode_encode_thumbRegOffset 3 rd rb ro
  | tLdrReg rd rb ro => exact decode_encode_thumbRegOffset 4 rd rb ro
  | tLdrhReg rd rb ro => exact decode_encode_thumbRegOffset 5 rd rb ro
  | tLdrbReg rd rb ro => exact decode_encode_thumbRegOffset 6 rd rb ro
  | tLdrshReg rd rb ro => exact decode_encode_thumbRegOffset 7 rd rb ro
  | tIncSp off => exact decode_encode_thumbSp false off rfl
  | tDecSp off => exact decode_encode_thumbSp true off rfl
  | tPush r list => cases r with
    | false => exact decode_encode_thumbMisc 4 list
    | true => exact decode_encode_thumbMisc 5 list
  | tPop r list => cases r with
    | false => exact decode_encode_thumbMisc 12 list
    | true => exact decode_encode_thumbMisc 13 list
  | tBeq imm => exact decode_encode_thumbCond 0 imm
  | tBne imm => exact decode_encode_thumbCond 1 imm
  | tBcs imm => exact decode_encode_thumbCond 2 imm
  | tBcc imm => exact decode_encode_thumbCond 3 imm
  | tBmi imm => exact decode_encode_thumbCond 4 imm
  | tBpl imm => exact decode_encode_thumbCond 5 imm
  | tBvs imm => exact decode_encode_thumbCond 6 imm
  | tBvc imm => exact decode_encode_thumbCond 7 imm
  | tBhi imm => exact decode_encode_thumbCond 8 imm
  | tBls imm => exact decode_encode_thumbCond 9 imm
  | tBge imm => exact decode_encode_thumbCond 10 imm
  | tBlt imm => exact decode_encode_thumbCond 11 imm
  | tBgt imm => exact decode_encode_thumbCond 12 imm
  | tBle imm => exact decode_encode_thumbCond 13 imm
  | tUndefined imm => exact decode_encode_thumbCond 14 imm
  | tSwi imm => exact decode_encode_thumbCond 15 imm
  | tB off => exact decode_encode_thumbBranch 28 off
  | tBlHi off => exact decode_encode_thumbBranch 30 off
  | tBlLo off => exact decode_encode_thumbBranch 31 off

end

end Sys2Proof
end

section
/-! PROOFS. O2. -/

namespace Sys2Proof.Proofs

open Sys2Proof

/-- Settles O2: the decoder gives back the fields of every format, even where the instruction is not well formed. -/
theorem encodeThenDecode : Obligations.EncodeThenDecode := by
  unfold Obligations.EncodeThenDecode
  exact fun i _ => decode_encode i

end Sys2Proof.Proofs
end

section
/-! PROOFS. When an instruction executes: the condition, and the refusal of what is no well-formed instruction. -/

namespace Sys2Proof.Proofs

open Sys2Proof Sys2Proof.Machine Sys2Proof.Claims

/-! ## The condition -/

/-- Settles O15: the gate only advances where the condition fails. -/
theorem conditionalExecution : Obligations.ConditionalExecution := by
  unfold Obligations.ConditionalExecution
  refine ⟨fun p => ⟨rfl, rfl, rfl, rfl, rfl, rfl, rfl, rfl, rfl, rfl, rfl, rfl, rfl, rfl, rfl⟩, ?_⟩
  intro i c s hc hnv hf hm hroom
  exact (exec_of_conditionFailed hc hnv hf hm).trans (State.advance_of (s := s.begun) hroom)

/-! ## Refusals at the gate -/

/-- An ARM instruction with condition 1111 is refused by the gate. -/
theorem exec_of_condNever {i : Instr} {s : State} (hc : i.cond? = some .nv) (hm : Mode.ofBits s.cpsr.m ≠ none) :
    exec i s = .refused .condNever := by
  obtain ⟨reads, effect, he⟩ := exec_gate i s
  rw [he, gateCond_of_cond hc]
  unfold runArm
  rw [if_neg hm, if_pos rfl]

theorem restriction_of_operands {i : Instr} {r : Restriction} (h : i.violation = some (.operands r)) : i.restriction = some r := by
  unfold Instr.violation at h
  split at h
  · cases h
  · simpa using h

/-- The gate holds every instruction that is offered to no coprocessor to its restriction. -/
theorem gateRestriction_of_no_offer {i : Instr} {s : State} (h : copForm s i = none) : Instr.gateRestriction i = i.restriction := by
  cases i with
  | ldc | stc | mcr => cases h
  | _ => rfl

/-- The gate of a Thumb instruction tests no condition. -/
theorem gateCond_passes {i : Instr} {p : Psr} (h : conditionPassed p (i.cond?.getD .al) = true) :
    conditionPassed p (Instr.gateCond i) = true := by
  unfold Instr.gateCond
  split
  · exact h
  · rfl

/-- Once its condition has passed, an instruction that breaks a restriction is refused by the gate. -/
theorem exec_of_restriction {i : Instr} {r : Restriction} {s : State} (hr : Instr.gateRestriction i = some r)
    (hm : Mode.ofBits s.cpsr.m ≠ none) (hc : conditionPassed s.cpsr (Instr.gateCond i) = true) :
    exec i s = .refused (.operands r) := by
  obtain ⟨reads, effect, he⟩ := exec_gate i s
  have hnv : Instr.gateCond i ≠ .nv := fun e => by
    rw [e] at hc
    cases hc
  rw [he, hr]
  unfold runArm
  rw [if_neg hm, if_neg hnv, if_pos hc]

/-! ## Bits that are no instruction -/

/-- What is fetched in Thumb state is a halfword. -/
theorem value_fetchSize_lt {s : State} (h : s.cpsr.t = true) (m : Memory) (big : Bool) (a : Word) :
    (m.value big s.fetchSize a).toNat < 2^16 := by
  rw [State.fetchSize, h]
  show ((m.half big a).setWidth 32).toNat < 2^16
  rw [BitVec.toNat_setWidth_of_le (by decide)]
  exact (m.half big a).isLt

/-- By O3, fetched bits that are the code of no instruction do not decode. -/
theorem decode_error_of_no_code {s : State} {w : Word} (hw : s.cpsr.t = true → w.toNat < 2^16)
    (h : ∀ i : Instr, encode i ≠ if s.cpsr.t then .thumb w.toNat else .arm w.toNat) : ∃ e, decode s.cpsr.t w = .error e := by
  cases hd : decode s.cpsr.t w with
  | error e => exact ⟨e, rfl⟩
  | ok i =>
    refine absurd ?_ (h i)
    cases ht : s.cpsr.t with
    | false =>
      rw [ht] at hd
      exact encode_of_decodeArm w.isLt hd
    | true =>
      rw [ht, decode, if_pos rfl, Nat.mod_eq_of_lt (hw ht)] at hd
      exact encode_of_decodeThumb (hw ht) hd

/-- With the debug logic disabled, fetched bits that do not decode are refused. -/
theorem fetchAndDecode_of_error {s : State} {e : DecodeError} (hf : Fetchable s) (hd : s.env.params.dbgen = false)
    (hdec : decode s.cpsr.t (s.mem.value s.env.params.bigend s.fetchSize s.pc) = .error e) :
    s.fetchAndDecode = .stops (.refused (.notAnInstruction e)) := by
  rw [State.fetchAndDecode, fetch_of_fetchable hf]
  dsimp only
  rw [observeAll_of_disabled _ (by exact hd), hdec]
  rfl

/-- A step at bits that do not decode is refused. -/
theorem step_of_decode_error {s : State} {e : DecodeError} (ha : AtInstruction s) (hd : s.env.params.dbgen = false)
    (hf : Fetchable s) (hdec : decode s.cpsr.t (s.mem.value s.env.params.bigend s.fetchSize s.pc) = .error e) :
    step s = .refused (.notAnInstruction e) := by
  obtain ⟨hb, hw⟩ := ha
  have hreach : s.fresh.reach = .stops (.refused (.notAnInstruction e)) :=
    ((reach_of_atBoundary (s := s.fresh) hb hd).2 hw).trans
      (fetchAndDecode_of_error (s := { s.fresh with dbg := { s.dbg with entered := false } }) hf hd hdec)
  rw [step_of_empty_script hb.1, State.coreStep, hreach]

/-- Settles O16: the gate refuses the condition and the operands, the decoder the bits. -/
theorem illFormedInstructionsAreRefused : Obligations.IllFormedInstructionsAreRefused := by
  unfold Obligations.IllFormedInstructionsAreRefused
  refine ⟨?_, ?_, ?_⟩
  · intro i s hc _ hm
    exact exec_of_condNever hc hm
  · intro i r s hv hcop hm hc
    exact exec_of_restriction ((gateRestriction_of_no_offer hcop).trans (restriction_of_operands hv)) hm (gateCond_passes hc)
  · intro s ha hd hf bits hno
    obtain ⟨e, he⟩ := decode_error_of_no_code (fun ht => value_fetchSize_lt ht s.mem s.env.params.bigend s.pc) hno
    exact ⟨e, step_of_decode_error ha hd hf he⟩

end Sys2Proof.Proofs
end

section
/-! PROOFS. The shifter in exact arithmetic: what each shift computes, which bit goes out, and from that the second operands. -/

namespace Sys2Proof.Machine

/-! ## Bits as numbers -/

theorem getLsbD_eq_div (m : Word) (k : Nat) : m.getLsbD k = decide (m.toNat / 2^k % 2 = 1) := by
  rw [← BitVec.testBit_toNat, Nat.testBit_eq_decide_div_mod_eq]

theorem msb_eq_getLsbD (m : Word) : m.msb = m.getLsbD 31 := BitVec.msb_eq_getLsbD_last m

/-- Bit 0 says whether the signed value is odd. -/
theorem getLsbD_zero_eq_toInt (m : Word) : m.getLsbD 0 = decide (m.toInt % 2 = 1) := by
  rw [getLsbD_eq_div, BitVec.toInt_eq_toNat_cond, decide_eq_decide]
  split <;> omega

/-! ## Shifts -/

theorem toNat_shiftLeft_eq (m : Word) (n : Nat) : (m <<< n).toNat = m.toNat * 2^n % 2^32 := by
  rw [BitVec.toNat_shiftLeft, Nat.shiftLeft_eq]

theorem toNat_shiftRight_eq (m : Word) (n : Nat) : (m >>> n).toNat = m.toNat / 2^n := by
  rw [BitVec.toNat_ushiftRight, Nat.shiftRight_eq_div_pow]

theorem toInt_asr (m : Word) (n : Nat) : (asr m n).toInt = m.toInt / 2^n := by
  rw [asr, BitVec.toInt_sshiftRight, Int.shiftRight_eq_div_pow]
  rfl

theorem getLsbD_asr_zero (m : Word) (k : Nat) : (asr m k).getLsbD 0 = if k < 32 then m.getLsbD k else m.msb := by
  rw [asr, BitVec.getLsbD_sshiftRight]
  rfl

/-- An arithmetic shift by the width or more leaves the sign alone. -/
theorem asr_of_ge (m : Word) {n : Nat} (h : 32 ≤ n) : asr m n = signFill m := by
  refine BitVec.eq_of_getLsbD_eq fun j hj => ?_
  have hge : ¬ n + j < 32 := by omega
  rw [asr, signFill, BitVec.getLsbD_sshiftRight, if_neg hge, decide_eq_false (by omega : ¬ 32 ≤ j)]
  cases m.msb with
  | false => exact (BitVec.getLsbD_zero).symm
  | true => exact ((BitVec.getLsbD_allOnes (v := 32)).trans (decide_eq_true hj)).symm

/-- The last bit that an arithmetic shift by k + 1 puts out. -/
theorem asr_carry (m : Word) (k : Nat) : decide (m.toInt / 2^k % 2 = 1) = if k < 32 then m.getLsbD k else m.msb := by
  rw [← getLsbD_asr_zero, getLsbD_zero_eq_toInt, toInt_asr]

/-! ## Rotations -/

/-- A rotation puts the low k bits above the others. -/
theorem toNat_ror (m : Word) {k : Nat} (h : k < 32) :
    (ror m k).toNat = (m.toNat / 2^k + m.toNat * 2^(32 - k)) % 2^32 := by
  have hlt : m.toNat / 2^k < 2^(32 - k) := by
    rw [Nat.div_lt_iff_lt_mul (Nat.two_pow_pos k), ← Nat.pow_add, Nat.sub_add_cancel h.le]
    exact m.isLt
  have hpow : 2^32 = 2^(32 - k) * 2^k := by rw [← Nat.pow_add, Nat.sub_add_cancel h.le]
  have hhigh : m.toNat <<< (32 - k) % 2^32 = 2^(32 - k) * (m.toNat % 2^k) := by
    rw [Nat.shiftLeft_eq, Nat.mul_comm, hpow, Nat.mul_mod_mul_left]
  have hsum : (ror m k).toNat = m.toNat / 2^k + m.toNat <<< (32 - k) % 2^32 := by
    rw [ror, BitVec.toNat_rotateRight, Nat.mod_eq_of_lt h, Nat.shiftRight_eq_div_pow, Nat.or_comm, hhigh,
      ← Nat.two_pow_add_eq_or_of_lt hlt, Nat.add_comm]
  rw [← Nat.mod_eq_of_lt (ror m k).isLt, hsum, Nat.add_mod_mod, Nat.shiftLeft_eq]

/-- The last bit that a rotation puts out goes in at the top. -/
theorem getLsbD_ror_last (m : Word) {k : Nat} (h0 : 0 < k) (h : k < 32) : (ror m k).getLsbD 31 = m.getLsbD (k - 1) := by
  have hnot : decide (31 < 32 - k) = false := decide_eq_false (by omega)
  rw [ror, BitVec.getLsbD_rotateRight, Nat.mod_eq_of_lt h, hnot, show 31 - (32 - k) = k - 1 by omega]
  rfl

/-- A rotation by one through the carry. -/
theorem toNat_rrx (m : Word) (c : Bool) :
    ((m >>> 1) ||| (if c then 0x80000000#32 else 0#32)).toNat = 2^31 * c.toNat + m.toNat / 2 := by
  have hlt : m.toNat / 2 < 2^31 := by
    have := m.isLt
    omega
  rw [BitVec.toNat_or, toNat_shiftRight_eq, Nat.pow_one, Nat.or_comm, Nat.two_pow_add_eq_or_of_lt hlt]
  cases c <;> rfl

/-! ## The carry of a left shift -/

/-- What a left shift puts out of the word. -/
theorem mul_two_pow_div (x : Nat) {n : Nat} (h : n ≤ 32) : x * 2^n / 2^32 = x / 2^(32 - n) := by
  have hpow : 2^32 = 2^(32 - n) * 2^n := by rw [← Nat.pow_add, Nat.sub_add_cancel h]
  rw [hpow, Nat.mul_div_mul_right _ _ (Nat.two_pow_pos n)]

/-- By more than the width, zeros alone go in and out. -/
theorem mul_two_pow_of_gt (x : Nat) {n : Nat} (h : 32 < n) : x * 2^n % 2^32 = 0 ∧ x * 2^n / 2^32 % 2 = 0 := by
  obtain ⟨d, rfl⟩ := Nat.exists_eq_add_of_lt h
  have he : x * 2^(32 + d + 1) = 2^32 * (2 * (x * 2^d)) := by ring
  rw [he, Nat.mul_mod_right, Nat.mul_div_cancel_left _ (Nat.two_pow_pos 32), Nat.mul_mod_right]
  exact ⟨rfl, rfl⟩

/-! ## Shifts by a register -/

theorem shiftByRegister_lsl (c : Bool) (m : Word) {n : Nat} (h : 1 ≤ n) :
    (shiftByRegister c .lsl m n).value.toNat = m.toNat * 2^n % 2^32 ∧
      (shiftByRegister c .lsl m n).carry = decide (m.toNat * 2^n / 2^32 % 2 = 1) := by
  rw [shiftByRegister, if_neg (by omega)]
  rcases Nat.lt_trichotomy n 32 with hlt | rfl | hgt
  · rw [if_pos hlt, mul_two_pow_div _ hlt.le, ← getLsbD_eq_div]
    exact ⟨toNat_shiftLeft_eq m n, rfl⟩
  · rw [if_neg (by decide), if_pos rfl, mul_two_pow_div _ le_rfl, ← getLsbD_eq_div, Nat.mul_mod_left]
    exact ⟨rfl, rfl⟩
  · obtain ⟨hmod, hdiv⟩ := mul_two_pow_of_gt m.toNat hgt
    rw [if_neg (by omega), if_neg (by omega), hmod, hdiv]
    exact ⟨rfl, rfl⟩

theorem shiftByRegister_lsr (c : Bool) (m : Word) {n : Nat} (h : 1 ≤ n) :
    (shiftByRegister c .lsr m n).value.toNat = m.toNat / 2^n ∧
      (shiftByRegister c .lsr m n).carry = decide (m.toNat / 2^(n - 1) % 2 = 1) := by
  have hzero : ∀ k, 32 ≤ k → m.toNat / 2^k = 0 := fun k hk =>
    Nat.div_eq_of_lt (m.isLt.trans_le (Nat.pow_le_pow_right (by decide) hk))
  rw [shiftByRegister, if_neg (by omega)]
  rcases Nat.lt_trichotomy n 32 with hlt | rfl | hgt
  · rw [if_pos hlt, ← getLsbD_eq_div]
    exact ⟨toNat_shiftRight_eq m n, rfl⟩
  · rw [if_neg (by decide), if_pos rfl, ← getLsbD_eq_div, hzero 32 le_rfl]
    exact ⟨rfl, msb_eq_getLsbD m⟩
  · rw [if_neg (by omega), if_neg (by omega), hzero n (by omega), hzero (n - 1) (by omega)]
    exact ⟨rfl, rfl⟩

theorem shiftByRegister_asr (c : Bool) (m : Word) {n : Nat} (h : 1 ≤ n) :
    (shiftByRegister c .asr m n).value.toInt = m.toInt / 2^n ∧
      (shiftByRegister c .asr m n).carry = decide (m.toInt / 2^(n - 1) % 2 = 1) := by
  rw [shiftByRegister, if_neg (by omega), asr_carry, ← toInt_asr]
  rcases Nat.lt_trichotomy n 32 with hlt | rfl | hgt
  · rw [if_pos hlt, if_pos (by omega)]
    exact ⟨rfl, rfl⟩
  · rw [if_neg (by decide), asr_of_ge m le_rfl, ← msb_eq_getLsbD]
    exact ⟨rfl, rfl⟩
  · rw [if_neg (by omega), if_neg (by omega), asr_of_ge m hgt.le]
    exact ⟨rfl, rfl⟩

theorem shiftByRegister_ror (c : Bool) (m : Word) {n : Nat} (h : 1 ≤ n) :
    (shiftByRegister c .ror m n).value.toNat = (m.toNat / 2^(n % 32) + m.toNat * 2^(32 - n % 32)) % 2^32 ∧
      (shiftByRegister c .ror m n).carry = (shiftByRegister c .ror m n).value.getLsbD 31 := by
  have hlt : n % 32 < 32 := Nat.mod_lt _ (by decide)
  rw [shiftByRegister, if_neg (by omega), ← toNat_ror m hlt]
  split
  · next h0 =>
    rw [h0]
    exact ⟨by rw [ror, BitVec.rotateRight_def]; simp, msb_eq_getLsbD m⟩
  · next h0 => exact ⟨rfl, (getLsbD_ror_last m (Nat.pos_of_ne_zero h0) hlt).symm⟩

/-! ## Shifts by an immediate amount -/

theorem shiftByImmediate_lsl (c : Bool) (m : Word) (n : Nat) :
    (shiftByImmediate c .lsl m n).value.toNat = m.toNat * 2^n % 2^32 ∧
      (shiftByImmediate c .lsl m n).carry = if n = 0 then c else m.getLsbD (32 - n) := by
  rw [shiftByImmediate, ← toNat_shiftLeft_eq]
  split
  · next h0 =>
    rw [h0, BitVec.shiftLeft_zero]
    exact ⟨rfl, rfl⟩
  · exact ⟨rfl, rfl⟩

/-- Amount 0 of LSR means 32, and so it is a shift by a register. -/
theorem shiftByImmediate_lsr_eq (c : Bool) (m : Word) {n : Nat} (hn : n < 32) :
    shiftByImmediate c .lsr m n = shiftByRegister c .lsr m (if n = 0 then 32 else n) := by
  rw [shiftByImmediate]
  split
  · rfl
  · next h0 => rw [shiftByRegister, if_neg h0, if_pos hn]

/-- As `shiftByImmediate_lsr_eq` for ASR. -/
theorem shiftByImmediate_asr_eq (c : Bool) (m : Word) {n : Nat} (hn : n < 32) :
    shiftByImmediate c .asr m n = shiftByRegister c .asr m (if n = 0 then 32 else n) := by
  rw [shiftByImmediate]
  split
  · rfl
  · next h0 => rw [shiftByRegister, if_neg h0, if_pos hn]

theorem shiftByImmediate_ror (c : Bool) (m : Word) {n : Nat} (hn : n < 32) (h0 : n ≠ 0) :
    (shiftByImmediate c .ror m n).value.toNat = (m.toNat / 2^n + m.toNat * 2^(32 - n)) % 2^32 ∧
      (shiftByImmediate c .ror m n).carry = m.getLsbD (n - 1) := by
  rw [shiftByImmediate, if_neg h0]
  exact ⟨toNat_ror m hn, rfl⟩

end Sys2Proof.Machine

namespace Sys2Proof.Proofs.Shifter

open Sys2Proof Sys2Proof.Machine Sys2Proof.Claims

/-- Settles O19. -/
theorem immediateOperand : Obligations.ImmediateOperand := by
  unfold Obligations.ImmediateOperand
  intro c rot imm
  have himm : (imm.setWidth 32).toNat = imm.toNat := BitVec.toNat_setWidth_of_le (by decide)
  have hrot : 2 * rot.toNat < 32 := by
    have := rot.isLt
    omega
  constructor
  · rw [Machine.immediateOperand, toNat_ror _ hrot, himm]
  · simp only [Machine.immediateOperand, msb_eq_getLsbD]

/-- Settles O20. -/
theorem shiftByRegister : Obligations.ShiftByRegister := by
  unfold Obligations.ShiftByRegister
  intro c sh m n
  refine ⟨fun h => ?_, fun h => ?_⟩
  · rw [h]
    exact ⟨rfl, rfl⟩
  · cases sh with
    | lsl => exact shiftByRegister_lsl c m h
    | lsr => exact shiftByRegister_lsr c m h
    | asr => exact shiftByRegister_asr c m h
    | ror => exact shiftByRegister_ror c m h

theorem bit_eq_toNat (c : Bool) : bit c = c.toNat := by cases c <;> rfl

/-- Settles O21: LSR and ASR are shifts by a register of the amount meant. -/
theorem shiftByImmediate : Obligations.ShiftByImmediate := by
  unfold Obligations.ShiftByImmediate
  intro c m n hn
  dsimp only
  rw [shiftByImmediate_lsr_eq c m hn, shiftByImmediate_asr_eq c m hn]
  have hk : 1 ≤ (if n = 0 then 32 else n) ∧ (if n = 0 then 32 else n) - 1 < 32 := by
    split <;> omega
  generalize (if n = 0 then 32 else n) = k at hk ⊢
  obtain ⟨hk1, hk32⟩ := hk
  obtain ⟨hlsr, hlsrc⟩ := shiftByRegister_lsr c m hk1
  obtain ⟨hasr, hasrc⟩ := shiftByRegister_asr c m hk1
  refine ⟨shiftByImmediate_lsl c m n, ⟨hlsr, ?_⟩, ⟨hasr, ?_⟩, shiftByImmediate_ror c m hn, ?_⟩
  · rw [hlsrc, getLsbD_eq_div]
  · rw [hasrc, asr_carry, if_pos hk32]
  · rintro rfl
    rw [bit_eq_toNat]
    exact ⟨toNat_rrx m c, rfl⟩

end Sys2Proof.Proofs.Shifter
end

section
/-! PROOFS. What data processing, MRS and MSR compute: the adder against exact sums and differences, the sixteen operations by their
class, and a status register after a write of its fields. -/

namespace Sys2Proof.Proofs

open Sys2Proof Sys2Proof.Machine Sys2Proof.Claims

/-! ## The adder -/

/-- A signed sum that does not fit is one outside the range of 32 bits. -/
theorem decide_overflow_eq_outside (x : Int) : decide (x < -2^31 ∨ 2^31 ≤ x) = outside x := by
  rw [outside, ← Bool.decide_or, decide_eq_decide]
  omega

theorem addWithCarry_eq (x y : Word) (c : Bool) :
    addWithCarry x y c =
      ⟨x + y + BitVec.ofNat 32 (bit c), decide (2^32 ≤ x.toNat + y.toNat + bit c), outside (x.toInt + y.toInt + bit c)⟩ := by
  simp only [addWithCarry, Shifter.bit_eq_toNat, decide_overflow_eq_outside, BitVec.ofNat_add, BitVec.ofNat_toNat,
    BitVec.setWidth_eq]

theorem addWithCarry_without_carry (x y : Word) :
    addWithCarry x y false = ⟨x + y, decide (2^32 ≤ x.toNat + y.toNat), outside (x.toInt + y.toInt)⟩ := by
  simp [addWithCarry_eq, bit]

/-- Adding a complement subtracts, and the carry in is NOT borrow: `-y = ~y + 1`. -/
theorem addWithCarry_not (x y : Word) (c : Bool) :
    addWithCarry x (~~~y) c =
      ⟨x - y - BitVec.ofNat 32 (bit (!c)), decide (y.toNat + bit (!c) ≤ x.toNat),
        outside (x.toInt - y.toInt - bit (!c))⟩ := by
  have hy := y.isLt
  have hnat : (~~~y).toNat = 2^32 - 1 - y.toNat := BitVec.toNat_not
  have hint : (~~~y).toInt = -1 - y.toInt := by
    rw [BitVec.toInt_eq_toNat_cond, BitVec.toInt_eq_toNat_cond, hnat]
    omega
  have hone : bit c + bit (!c) = 1 := by cases c <;> rfl
  rw [addWithCarry_eq, Sum.mk.injEq]
  refine ⟨?_, ?_, ?_⟩
  · cases c with
    | false =>
      show x + ~~~y + 0#32 = x - y - 1#32
      bv_omega
    | true =>
      show x + ~~~y + 1#32 = x - y - 0#32
      bv_omega
  · rw [hnat, decide_eq_decide]
    omega
  · rw [hint]
    congr 1
    omega

theorem addWithCarry_not_of_carry (x y : Word) :
    addWithCarry x (~~~y) true = ⟨x - y, decide (y.toNat ≤ x.toNat), outside (x.toInt - y.toInt)⟩ := by
  simp [addWithCarry_not, bit]

/-! ## The sixteen operations -/

/-- A logical operation leaves the shifter's carry and V; any other answers a sum or a difference with its own carry and overflow
(rule R171). -/
theorem dpCompute_cases (op : DpOp) (a b : Word) (c : Bool) :
    (dpCompute op a b c = .logical (dpValue op a b c) ∧
      ∀ sc v, dpCarry op a b c sc = sc ∧ dpOverflow op a b c v = v) ∨
    ∀ sc v, dpCompute op a b c = .sum ⟨dpValue op a b c, dpCarry op a b c sc, dpOverflow op a b c v⟩ := by
  cases op with
  | and | tst | eor | teq | orr | mov | bic | mvn => exact .inl ⟨rfl, fun _ _ => ⟨rfl, rfl⟩⟩
  | add | cmn => exact .inr fun _ _ => congrArg DpResult.sum (addWithCarry_without_carry a b)
  | adc => exact .inr fun _ _ => congrArg DpResult.sum (addWithCarry_eq a b c)
  | sub | cmp => exact .inr fun _ _ => congrArg DpResult.sum (addWithCarry_not_of_carry a b)
  | rsb => exact .inr fun _ _ => congrArg DpResult.sum (addWithCarry_not_of_carry b a)
  | sbc => exact .inr fun _ _ => congrArg DpResult.sum (addWithCarry_not a b c)
  | rsc => exact .inr fun _ _ => congrArg DpResult.sum (addWithCarry_not b a c)

theorem dpCompute_word (op : DpOp) (a b : Word) (c : Bool) : (dpCompute op a b c).word = dpValue op a b c := by
  rcases dpCompute_cases op a b c with ⟨e, _⟩ | e
  · rw [e, DpResult.word]
  · rw [e false false, DpResult.word]

theorem dpCompute_flags (op : DpOp) (a : Word) (b : Shifted) (p : Psr) :
    (dpCompute op a b.value p.c).flags p b.carry = dpFlags op a b p := by
  rcases dpCompute_cases op a b.value p.c with ⟨e, h⟩ | e
  · obtain ⟨hc, hv⟩ := h b.carry p.v
    simp only [e, DpResult.flags, Psr.withLogical, Psr.withNz, dpFlags, hc, hv, msb_eq_getLsbD, BitVec.ofNat_eq_ofNat]
  · simp only [e b.carry p.v, DpResult.flags, Psr.withSum, Psr.withNz, dpFlags, msb_eq_getLsbD,
      BitVec.ofNat_eq_ofNat]

theorem dpWrites_eq_not_isTest (op : DpOp) : dpWrites op = !isTest op := by cases op <;> rfl

/-! ## The end of a data processing instruction -/

/-- After the flags an instruction sees the registers and the program counter it saw before. -/
theorem sameView_dpFlags (op : DpOp) (a : Word) (b : Shifted) (s : State) :
    SameView s { s.begun with cpsr := dpFlags op a b s.cpsr } := ⟨rfl, rfl, rfl, rfl, rfl⟩

/-- An operation that does not write r15 leaves Rd and the flags, and goes on. -/
theorem dpFinish_of_room {op : DpOp} {sf : Bool} {rd : Reg} {a : Word} {b : Shifted} {s : State}
    (hrd : isTest op = false → rd ≠ 15#4) (hroom : Room s) :
    dpFinish op sf rd a b s.begun = .next (dpNext op sf rd a b s) := by
  simp only [dpFinish, State.begun_cpsr, dpCompute_word, dpCompute_flags, dpWrites_eq_not_isTest, dpNext]
  cases ht : isTest op with
  | true =>
    rw [Bool.or_true]
    exact (sameView_dpFlags op a b s).advance hroom
  | false =>
    rw [isPc_of_ne (hrd ht)]
    cases sf with
    | true => exact (sameView_dpFlags op a b s).setReg_advance rd _ hroom
    | false =>
      have hview : SameView s s.begun := ⟨rfl, rfl, rfl, rfl, rfl⟩
      simp only [State.writeAndAdvance, isPc_of_ne (hrd ht)]
      exact hview.setReg_advance rd _ hroom

/-- A result written to r15: without S a branch, with S the return from an exception (rule R174). -/
theorem dpFinish_pc {op : DpOp} {a : Word} {b : Shifted} {s : State} (ht : isTest op = false) (sf : Bool) :
    dpFinish op sf 15#4 a b s =
      if sf then s.returnTo (dpValue op a b.value s.cpsr.c) else .next (s.branchTo (dpValue op a b.value s.cpsr.c)) := by
  simp only [dpFinish, dpWrites_eq_not_isTest, ht, dpCompute_word]
  rfl

theorem len_of_arm {s : State} (h : s.cpsr.t = false) : s.len = 4 := by
  rw [State.len, h]
  rfl

theorem isThumb_operand2 (o : Operand2) (op : DpOp) (cond : Cond) (sf : Bool) (rn rd : Reg) :
    isThumb (o.instr op cond sf rn rd) = false := by
  cases o <;> cases op <;> rfl

/-! ## MRS -/

theorem exec_mrs {cond : Cond} {r : Bool} {rd : Reg} {s : State} (hr : Runs (.mrs cond r rd) [] s) :
    exec (.mrs cond r rd) s = mrs r rd s.begun := by
  obtain ⟨_, hm, hv, hc, hz⟩ := hr
  rw [exec, execMrs]
  exact runArm_of _ hm hc (restriction_of_violation hv) hz

/-- A mode that has an SPSR remembers what was last read of it. -/
theorem spsr_setSpsr {f : SpsrFile} {m : Mode} {p : Psr} (h : f.get m = some p) (r : PsrReads) (v : BitVec 20) :
    (r.setSpsr m v).spsr m = some v := by
  cases m with
  | usr | sys => cases h
  | fiq | irq | svc | abt | und => rfl

/-! ## The fields that MSR writes -/

/-- A bit of a field that is chosen from two words. -/
theorem getLsbD_chosen (c : Bool) (x r : BitVec 20) {start len k : Nat} (hs : start ≤ k) (hk : k < start + len) :
    (if c then x.extractLsb' start len else r.extractLsb' start len).getLsbD (k - start) =
      (r.getLsbD k && !c || x.getLsbD k && c) := by
  have hlt : k - start < len := by omega
  cases c <;> simp [BitVec.getLsbD_extractLsb', hlt, Nat.add_sub_cancel' hs, -BitVec.getLsbD_eq_getElem]

/-- The reserved bits after a write of the fields, the selected ones and the others field by field (rule R205). -/
theorem reserved_of_mask (mask : BitVec 4) (r x : BitVec 20) :
    (r &&& ~~~reservedMask mask) ||| (x &&& reservedMask mask) =
      (if mask.getLsbD 3 then x.extractLsb' 16 4 else r.extractLsb' 16 4) ++
        (if mask.getLsbD 2 then x.extractLsb' 8 8 else r.extractLsb' 8 8) ++
        (if mask.getLsbD 1 then x.extractLsb' 0 8 else r.extractLsb' 0 8) := by
  refine BitVec.eq_of_getLsbD_eq fun k hk => ?_
  rw [BitVec.getLsbD_or, BitVec.getLsbD_and, BitVec.getLsbD_and, BitVec.getLsbD_not, decide_eq_true hk, Bool.true_and,
    getLsbD_reservedMask mask k hk, BitVec.getLsbD_append, BitVec.getLsbD_append, Nat.sub_sub]
  by_cases h8 : k < 8
  · rw [if_neg (by omega), if_neg (by omega), if_pos h8]
    exact (getLsbD_chosen (mask.getLsbD 1) x r k.zero_le (by omega)).symm
  by_cases h16 : k < 16
  · rw [if_neg (by omega), if_pos (by omega), if_neg h8, if_pos (by omega)]
    exact (getLsbD_chosen (mask.getLsbD 2) x r (by omega) h16).symm
  · rw [if_pos (by omega), if_neg h8, if_neg (by omega)]
    exact (getLsbD_chosen (mask.getLsbD 3) x r (by omega) hk).symm

theorem writeFields_eq_written (p : Psr) (mask : BitVec 4) (v : Word) : p.writeFields mask v = written p mask v := by
  have hm : v.setWidth 5 = v.extractLsb' 0 5 := BitVec.setWidth_eq_extractLsb' (by decide)
  simp only [Psr.writeFields, written, reserved_of_mask, hm, extractLsb'_extractLsb'_of_le v (show 16 + 4 ≤ 20 by decide),
    extractLsb'_extractLsb'_of_le v (show 8 + 8 ≤ 20 by decide), extractLsb'_extractLsb'_of_le v (show 0 + 8 ≤ 20 by decide)]

/-- A write that keeps T leaves the instruction set in force. -/
theorem written_t {p : Psr} {mask : BitVec 4} {v : Word} (h : mask.getLsbD 0 = true → v.getLsbD 5 = p.t) :
    (written p mask v).t = p.t := by
  simp only [written]
  split
  · next hc => exact h hc
  · rfl

/-! ## MSR where it does not stop -/

theorem changesReserved_of_kept {last : Option (BitVec 20)} {mask : BitVec 4} {v : Word} (h : KeepsReserved mask v last) :
    changesReserved last mask v = false :=
  Bool.eq_false_iff.mpr fun hc => (changesReserved_iff last mask v).mp hc h

theorem msr_cpsr_of_kept {s : State} {mask : BitVec 4} {v : Word} (hk : KeepsReserved (cpsrMask s mask) v s.psrRead.cpsr)
    (ht : (cpsrMask s mask).getLsbD 0 = true → v.getLsbD 5 = s.cpsr.t) :
    msr false mask v s.begun = State.advance { s.begun with cpsr := written s.cpsr (cpsrMask s mask) v } := by
  have hmask : s.begun.effectiveMask mask = cpsrMask s mask := rfl
  rw [msr, if_neg Bool.false_ne_true]
  dsimp only
  rw [hmask, if_neg (fun hn => hn.2 (ht hn.1)), State.begun_psrRead, changesReserved_of_kept hk,
    if_neg Bool.false_ne_true, writeFields_eq_written]
  rfl

theorem msr_spsr_of_kept {s : State} {p : Psr} {mask : BitVec 4} {v : Word} (hp : s.spsr.get s.mode = some p)
    (hk : KeepsReserved mask v (s.psrRead.spsr s.mode)) :
    msr true mask v s.begun = State.advance { s.begun with spsr := s.spsr.set s.mode (written p mask v) } := by
  rw [msr, if_pos rfl, State.mode_begun, State.begun_spsr, hp]
  dsimp only
  rw [State.begun_psrRead, changesReserved_of_kept hk, if_neg Bool.false_ne_true, writeFields_eq_written]

theorem arm_of_msrForm {i : Instr} {r : Bool} {mask : BitVec 4} {reads : List Reg} {v : Word} {s : State}
    (h : msrForm s i = some (r, mask, reads, v)) (ht : s.cpsr.t = isThumb i) : s.cpsr.t = false := by
  cases i with
  | msrReg | msrImm => exact ht
  | _ => cases h

end Sys2Proof.Proofs
end

section
/-! PROOFS. The statements about data processing and status registers, and the words of the spec's examples. -/

namespace Sys2Proof.Proofs

open Sys2Proof Sys2Proof.Machine Sys2Proof.Claims

/-! ## Data processing -/

/-- Settles O22. -/
theorem dataProcessingResult : Obligations.DataProcessingResult := by
  unfold Obligations.DataProcessingResult
  intro o op cond sf rn rd s hr hroom hrd
  rw [exec_of_operand2 hr, dpFinish_of_room (fun _ => hrd) hroom]

/-- Settles O23: the branch is in ARM state, the return in the state of the restored T. -/
theorem dataProcessingToPc : Obligations.DataProcessingToPc := by
  unfold Obligations.DataProcessingToPc
  intro o op cond rn s ht v
  refine ⟨fun hr => ?_, fun hr => ?_⟩ <;> rw [exec_of_operand2 hr, dpFinish_pc ht]
  · have harm : s.cpsr.t = false := hr.1.trans (isThumb_operand2 ..)
    simp only [Bool.false_eq_true, if_false, State.branchTo, State.begun_cpsr, harm]
    rfl
  · rw [if_pos rfl, State.returnTo, State.mode_begun, State.begun_spsr]
    cases s.spsr.get s.mode <;> rfl

/-! ## Status registers -/

/-- Settles O28. -/
theorem mrsResult : Obligations.MrsResult := by
  unfold Obligations.MrsResult
  intro cond rd s
  refine ⟨?_, ?_, fun hp hr => ?_⟩
  · intro hr hroom q
    rw [exec_mrs hr, ← len_of_arm hr.1]
    have hview : SameView s
        { s.begun.drawn with cpsr := q, psrRead := { s.psrRead with cpsr := some q.reserved } } :=
      ⟨rfl, rfl, rfl, rfl, rfl⟩
    exact hview.setReg_advance rd q.toWord hroom
  · intro p hp hr hroom q
    refine ⟨?_, spsr_setSpsr hp s.psrRead q.reserved⟩
    rw [exec_mrs hr, ← len_of_arm hr.1, mrs, if_pos rfl, State.mode_begun, State.begun_spsr, hp]
    have hview : SameView s
        { s.begun.drawn with spsr := s.spsr.set s.mode q, psrRead := s.psrRead.setSpsr s.mode q.reserved } :=
      ⟨rfl, rfl, rfl, rfl, rfl⟩
    exact hview.setReg_advance rd q.toWord hroom
  · rw [exec_mrs hr, mrs, if_pos rfl, State.mode_begun, State.begun_spsr, hp]

/-- Settles O30: none of the stops of MSR applies, and the fields written are those of the mask. -/
theorem msrResult : Obligations.MsrResult := by
  unfold Obligations.MsrResult
  intro i mask reads v s hr hroom
  refine ⟨fun h hk ht => ?_, fun p h hp hk => ?_⟩ <;> rw [exec_of_msrForm h hr, ← len_of_arm (arm_of_msrForm h hr.1)]
  · rw [msr_cpsr_of_kept hk ht]
    have hlen : State.len { s.begun with cpsr := written s.cpsr (cpsrMask s mask) v } = s.len := by
      rw [State.len, written_t ht, State.len]
    rw [State.advance_of (by rw [hlen]; exact hroom), hlen]
    rfl
  · rw [msr_spsr_of_kept hp hk]
    exact State.advance_of (s := { s.begun with spsr := s.spsr.set s.mode (written p mask v) }) hroom

/-! ## Encodings -/

/-- Settles O1, by running the decoder on the twelve words. -/
theorem exampleWordsDecode : Obligations.ExampleWordsDecode := by
  unfold Obligations.ExampleWordsDecode
  exact ⟨rfl, rfl, rfl, rfl, rfl, rfl, rfl, rfl, rfl, rfl, rfl, rfl⟩

end Sys2Proof.Proofs
end

section
/-! PROOFS. The multiplies: what their registers and flags are in exact arithmetic. -/

namespace Sys2Proof.Proofs

open Sys2Proof Sys2Proof.Machine Sys2Proof.Claims

/-! ## N and Z of an exact result -/

theorem withNz_ofNat (p : Psr) (x : Nat) :
    p.withNz (BitVec.ofNat 32 x) = { p with n := decide (2^31 ≤ x % 2^32), z := decide (x % 2^32 = 0) } := by
  have hz : BitVec.ofNat 32 x = 0 ↔ x % 2^32 = 0 := BitVec.toNat_eq.trans (by rw [BitVec.toNat_ofNat]; rfl)
  rw [Psr.withNz, BitVec.msb_eq_decide, BitVec.toNat_ofNat, decide_eq_decide.mpr hz]

theorem withNz64_ofInt (p : Psr) (x : Int) :
    p.withNz64 (BitVec.ofInt 64 x) = { p with n := decide (2^63 ≤ x % 2^64), z := decide (x % 2^64 = 0) } := by
  have hnat : (BitVec.ofInt 64 x).toNat = (x % 2^64).toNat := BitVec.toNat_ofInt x
  have hn : 2^63 ≤ (x % 2^64).toNat ↔ 2^63 ≤ x % 2^64 := by omega
  have hz : BitVec.ofInt 64 x = 0 ↔ x % 2^64 = 0 := by
    rw [BitVec.toNat_eq, hnat]
    show (x % 2^64).toNat = 0 ↔ x % 2^64 = 0
    omega
  rw [Psr.withNz64, BitVec.msb_eq_decide, hnat, decide_eq_decide.mpr hn, decide_eq_decide.mpr hz]

/-! ## The two halves of a 64-bit result -/

theorem low_ofInt (x : Int) : (BitVec.ofInt 64 x).extractLsb' 0 32 = BitVec.ofInt 32 x := by
  refine BitVec.eq_of_toNat_eq ?_
  rw [BitVec.extractLsb'_toNat, BitVec.toNat_ofInt, BitVec.toNat_ofInt, Nat.shiftRight_zero]
  omega

theorem high_ofInt (x : Int) : (BitVec.ofInt 64 x).extractLsb' 32 32 = BitVec.ofInt 32 (x / 2^32) := by
  refine BitVec.eq_of_toNat_eq ?_
  rw [BitVec.extractLsb'_toNat, BitVec.toNat_ofInt, BitVec.toNat_ofInt, Nat.shiftRight_eq_div_pow]
  omega

/-! ## The end of a multiply -/

/-- What a 32-bit multiply of the exact result p leaves (rule R221). -/
def multiplyNext (sf : Bool) (rd : Reg) (p : Nat) (s : State) : State :=
  { s.begun with
    regs := (s.setReg rd (BitVec.ofNat 32 p)).regs
    cpsr := if sf then { s.cpsr with n := decide (2^31 ≤ p % 2^32), z := decide (p % 2^32 = 0), c := s.freeBit } else s.cpsr
    free := if sf then s.free + 1 else s.free
    pc := s.pc + s.len }

theorem multiplyFinish_of_room {sf : Bool} {rd : Reg} {p : Nat} {s : State} (hroom : Room s) :
    multiplyFinish sf rd (BitVec.ofNat 32 p) s.begun = .next (multiplyNext sf rd p s) := by
  cases sf with
  | true =>
    have hview : SameView s (s.begun.multiplyFlags (BitVec.ofNat 32 p)) := ⟨rfl, rfl, rfl, rfl, rfl⟩
    refine (hview.setReg_advance rd _ hroom).trans ?_
    rw [State.multiplyFlags, withNz_ofNat]
    rfl
  | false =>
    have hview : SameView s s.begun := ⟨rfl, rfl, rfl, rfl, rfl⟩
    exact hview.setReg_advance rd _ hroom

/-- What a long multiply of the exact result p leaves (rule R221). -/
def longMultiplyNext (sf : Bool) (rdHi rdLo : Reg) (p : Int) (s : State) : State :=
  { s.begun with
    regs := ((s.setReg rdLo (BitVec.ofInt 32 p)).setReg rdHi (BitVec.ofInt 32 (p / 2^32))).regs
    cpsr :=
      if sf then
        { s.cpsr with n := decide (2^63 ≤ p % 2^64), z := decide (p % 2^64 = 0), c := s.freeBit, v := s.drawn.freeBit }
      else s.cpsr
    free := if sf then s.free + 2 else s.free
    pc := s.pc + s.len }

/-- A register write keeps two views the same. -/
theorem sameView_setReg {s u : State} (h : SameView s u) (n : Reg) (v : Word) : SameView (s.setReg n v) (u.setReg n v) where
  regs := h.setReg_regs n v
  pc := by rw [State.setReg_pc, State.setReg_pc, h.pc]
  m := by rw [State.setReg_cpsr, State.setReg_cpsr, h.m]
  t := by rw [State.setReg_cpsr, State.setReg_cpsr, h.t]
  inDebug := by rw [State.setReg_dbg, State.setReg_dbg, h.inDebug]

/-- Two register writes followed by the advance. -/
theorem setReg_setReg_advance {s u : State} (h : SameView s u) (lo hi : Reg) (v w : Word) (hroom : Room s) :
    ((u.setReg lo v).setReg hi w).advance =
      .next { u with regs := ((s.setReg lo v).setReg hi w).regs, pc := s.pc + s.len } := by
  have hroom' : Room (s.setReg lo v) := by
    rw [Room, State.setReg_dbg, State.setReg_pc, State.len_setReg]
    exact hroom
  rw [(sameView_setReg h lo v).setReg_advance hi w hroom', State.setReg_eq u, State.setReg_pc, State.len_setReg]

theorem longMultiplyFinish_of_room {sf : Bool} {rdHi rdLo : Reg} {p : Int} {s : State} (hroom : Room s) :
    longMultiplyFinish sf rdHi rdLo (BitVec.ofInt 64 p) s.begun = .next (longMultiplyNext sf rdHi rdLo p s) := by
  rw [longMultiplyFinish, low_ofInt, high_ofInt]
  cases sf with
  | true =>
    have hview : SameView s (s.begun.longMultiplyFlags (BitVec.ofInt 64 p)) := ⟨rfl, rfl, rfl, rfl, rfl⟩
    refine (setReg_setReg_advance hview rdLo rdHi _ _ hroom).trans ?_
    rw [State.longMultiplyFlags, withNz64_ofInt]
    rfl
  | false =>
    have hview : SameView s s.begun := ⟨rfl, rfl, rfl, rfl, rfl⟩
    exact setReg_setReg_advance hview rdLo rdHi _ _ hroom

/-- As `longMultiplyFinish_of_room` for an unsigned result. -/
theorem longMultiplyFinish_ofNat_of_room {sf : Bool} {rdHi rdLo : Reg} {x : Nat} {p : Int} {s : State} (hx : (x : Int) = p)
    (hroom : Room s) :
    longMultiplyFinish sf rdHi rdLo (BitVec.ofNat 64 x) s.begun = .next (longMultiplyNext sf rdHi rdLo p s) := by
  rw [← BitVec.ofInt_natCast, hx]
  exact longMultiplyFinish_of_room hroom

/-! ## The multiplies -/

/-- The gate lets an instruction that runs act, where it tests the instruction's own condition and restriction. -/
theorem runArm_of_runs {i : Instr} {c : Cond} {r : Option Restriction} {reads : List Reg} {s : State} {effect : State → Result}
    (hr : Runs i reads s) (hcond : i.cond?.getD .al = c) (hres : i.restriction = r) :
    runArm c r reads s effect = effect s.begun := by
  obtain ⟨_, hm, hv, hc, hz⟩ := hr
  rw [hcond] at hc
  exact runArm_of effect hm hc (hres.symm.trans (restriction_of_violation hv)) hz

theorem accumulator_begun (s : State) (rdHi rdLo : Reg) :
    (s.begun.accumulator rdHi rdLo : Int) = (s.reg rdHi).toNat * 2^32 + (s.reg rdLo).toNat := by
  simp [State.accumulator]

/-- Settles O26. -/
theorem multiplyResult : Obligations.MultiplyResult := by
  unfold Obligations.MultiplyResult
  intro cond sf rd rn rs rm trd trs s hroom
  refine ⟨fun hr => ?mul, fun hr => ?mla, fun hr => ?tMul⟩
  case mul =>
    rw [exec, execMul]
    exact Eq.trans (runArm_of_runs hr rfl rfl) (multiplyFinish_of_room hroom)
  case mla =>
    rw [exec, execMla]
    exact Eq.trans (runArm_of_runs hr rfl rfl) (multiplyFinish_of_room hroom)
  case tMul =>
    rw [exec, execTMul, runThumb]
    exact Eq.trans (runArm_of_runs hr rfl rfl) (multiplyFinish_of_room (sf := true) hroom)

/-- Settles O27: each form ends with its exact result, the unsigned ones with a natural number. -/
theorem longMultiplyResult : Obligations.LongMultiplyResult := by
  unfold Obligations.LongMultiplyResult
  intro cond sf rdHi rdLo rs rm s hroom
  refine ⟨fun hr => ?umull, fun hr => ?umlal, fun hr => ?smull, fun hr => ?smlal⟩ <;> rw [← len_of_arm hr.1]
  case umull =>
    rw [exec, execUmull]
    exact Eq.trans (runArm_of_runs hr rfl rfl) (longMultiplyFinish_ofNat_of_room (Int.natCast_mul _ _) hroom)
  case umlal =>
    rw [exec, execUmlal]
    refine Eq.trans (runArm_of_runs hr rfl rfl) (longMultiplyFinish_ofNat_of_room ?_ hroom)
    rw [Int.natCast_add, Int.natCast_mul, accumulator_begun, State.reg_begun, State.reg_begun]
  case smull =>
    rw [exec, execSmull]
    exact Eq.trans (runArm_of_runs hr rfl rfl) (longMultiplyFinish_of_room hroom)
  case smlal =>
    rw [exec, execSmlal]
    refine Eq.trans (runArm_of_runs hr rfl rfl) ?_
    rw [accumulator_begun]
    exact longMultiplyFinish_of_room hroom

end Sys2Proof.Proofs
end

section
/-! PROOFS. The branches of both states: where a branch goes from the state in which an instruction acts, and the links. -/

namespace Sys2Proof.Proofs

open Sys2Proof Sys2Proof.Machine Sys2Proof.Claims

/-! ## The program counter by state -/

theorem len_of_thumb {s : State} (h : s.cpsr.t = true) : s.len = 2 := by
  rw [State.len, h]
  rfl

theorem pcRead_of_arm {s : State} (h : s.cpsr.t = false) : s.pcRead = s.pc + 8 := by
  rw [State.pcRead, len_of_arm h]
  rfl

theorem pcRead_of_thumb {s : State} (h : s.cpsr.t = true) : s.pcRead = s.pc + 4 := by
  rw [State.pcRead, len_of_thumb h]
  rfl

/-! ## The end of a branch -/

theorem begun_branchTo_of_arm {s : State} (h : s.cpsr.t = false) (v : Word) :
    s.begun.branchTo v =
      { s.begun with pc := v &&& 0xFFFFFFFC#32, fetchPriv := s.isPriv, nextFetchPriv := s.isPriv } := by
  rw [State.branchTo, State.begun_cpsr, h]
  rfl

theorem begun_branchTo_of_thumb {s : State} (h : s.cpsr.t = true) (v : Word) :
    s.begun.branchTo v =
      { s.begun with pc := v &&& 0xFFFFFFFE#32, fetchPriv := s.isPriv, nextFetchPriv := s.isPriv } := by
  rw [State.branchTo, State.begun_cpsr, h]
  rfl

/-- A branch with link is the branch, and the link in the registers. -/
theorem begun_setReg_branchTo (s : State) (n : Reg) (link v : Word) :
    (s.begun.setReg n link).branchTo v = { s.begun.branchTo v with regs := (s.setReg n link).regs } := by
  rw [State.setReg_eq, s.setReg_begun_regs]
  rfl

/-! ## The branches -/

/-- Settles O32: the gate lets each form act; the PC-relative ones branch in the state they are in, BX in the state that bit 0 names. -/
theorem branchResult : Obligations.BranchResult := by
  unfold Obligations.BranchResult
  intro s jump
  refine ⟨fun cond off hr => ?b, fun cond off hr => ?bl, fun off hr => ?tB, fun off hr hroom => ?tBlHi, fun off hr => ?tBlLo, ?bx⟩
  case b =>
    rw [exec, execB]
    refine (runArm_of_runs hr rfl rfl).trans ?_
    rw [begun_branchTo_of_arm hr.1, State.pcRead_begun, pcRead_of_arm hr.1]
    rfl
  case bl =>
    rw [exec, execBl]
    refine (runArm_of_runs hr rfl rfl).trans ?_
    rw [begun_setReg_branchTo, begun_branchTo_of_arm hr.1, State.pcRead_begun, pcRead_of_arm hr.1]
    rfl
  case tB =>
    rw [exec, execTB, runThumb]
    refine (runArm_of_runs hr rfl rfl).trans ?_
    rw [begun_branchTo_of_thumb hr.1, State.pcRead_begun, pcRead_of_thumb hr.1]
    rfl
  case tBlHi =>
    have hview : SameView s s.begun := ⟨rfl, rfl, rfl, rfl, rfl⟩
    rw [exec, execTBlHi, runThumb]
    refine (runArm_of_runs hr rfl rfl).trans ?_
    rw [hview.setReg_advance 14#4 _ hroom, State.pcRead_begun, pcRead_of_thumb hr.1, len_of_thumb hr.1]
    rfl
  case tBlLo =>
    rw [exec, execTBlLo, runThumb]
    refine (runArm_of_runs hr rfl rfl).trans ?_
    rw [begun_setReg_branchTo, begun_branchTo_of_thumb hr.1]
    rfl
  case bx =>
    rintro i r (⟨cond, rfl⟩ | rfl) hr
    · rw [exec, execBx]
      exact runArm_of_runs hr rfl rfl
    · rw [exec, execTBx, runThumb]
      exact runArm_of_runs hr rfl rfl

end Sys2Proof.Proofs
end

section
/-! PROOFS. Accesses that abort: one access, and the bursts of reads and of writes of which some abort. -/

namespace Sys2Proof.Machine

/-! ## A row of stored words of which some are not stored -/

/-- Memory after words have been stored from an address up, but for those at addresses that abort. -/
def Memory.storeWordsUnless (big : Bool) (aborts : Word → Bool) : List Word → Word → Memory → Memory
  | [], _, m => m
  | v :: vs, a, m =>
    Memory.storeWordsUnless big aborts vs (a + 4) (if aborts a then m else m.store big .word a v)

theorem Memory.storeWordsUnless_wf {m : Memory} (h : m.wf = true) (big : Bool) (aborts : Word → Bool) (vs : List Word)
    (a : Word) : (Memory.storeWordsUnless big aborts vs a m).wf = true := by
  induction vs generalizing a m with
  | nil => exact h
  | cons v vs ih =>
    refine ih ?_ _
    split
    · exact h
    · exact Memory.store_wf h ..

theorem Memory.byte_storeWordsUnless_other {m : Memory} (h : m.wf = true) (big : Bool) (aborts : Word → Bool)
    (vs : List Word) (a b : Word) (hb : ∀ k < 4 * vs.length, b ≠ a + BitVec.ofNat 32 k) :
    (Memory.storeWordsUnless big aborts vs a m).byte b = m.byte b := by
  induction vs generalizing a m with
  | nil => rfl
  | cons v vs ih =>
    rw [List.length_cons] at hb
    have hrest : ∀ k < 4 * vs.length, b ≠ a + 4 + BitVec.ofNat 32 k := by
      intro k hk
      have := hb (4 + k) (by omega)
      rwa [BitVec.ofNat_add, ← BitVec.add_assoc] at this
    rw [Memory.storeWordsUnless]
    split
    · exact ih h _ hrest
    · rw [ih (Memory.store_wf h ..) _ hrest,
        Memory.byte_store_other h _ _ _ _ _ fun i hi => hb i (by simp only [Size.bytes] at hi; omega)]

/-- The bytes of the j-th word: as before where its address aborts, else those of the word. -/
theorem Memory.byte_storeWordsUnless {m : Memory} (h : m.wf = true) (big : Bool) (aborts : Word → Bool) (vs : List Word)
    (a : Word) (hl : 4 * vs.length < 2^32) {j : Nat} (hj : j < vs.length) {i : Nat} (hi : i < 4) :
    (Memory.storeWordsUnless big aborts vs a m).byte (a + BitVec.ofNat 32 (4 * j) + BitVec.ofNat 32 i) =
      if aborts (a + BitVec.ofNat 32 (4 * j)) then m.byte (a + BitVec.ofNat 32 (4 * j) + BitVec.ofNat 32 i)
      else storeByte big .word vs[j] i := by
  induction vs generalizing a m j with
  | nil => cases hj
  | cons v vs ih =>
    rw [List.length_cons] at hl hj
    have hfirst : (if aborts a then m else m.store big .word a v).wf = true := by
      split
      · exact h
      · exact Memory.store_wf h ..
    rw [Memory.storeWordsUnless]
    cases j with
    | zero =>
      have hother : ∀ k < 4 * vs.length, a + BitVec.ofNat 32 i ≠ a + 4 + BitVec.ofNat 32 k := by
        intro k hk
        have := add_ofNat_ne (j := i) (k := 4 + k) (by omega) (by omega) (by omega) a
        rwa [BitVec.ofNat_add, ← BitVec.add_assoc] at this
      rw [Nat.mul_zero, BitVec.add_zero, Memory.byte_storeWordsUnless_other hfirst _ _ _ _ _ hother]
      split
      · rfl
      · exact Memory.byte_store h _ _ _ _ hi
    | succ j =>
      rw [← add_four_add, ih hfirst _ (by omega) (by omega)]
      have hother : ∀ k < 4, a + 4 + BitVec.ofNat 32 (4 * j) + BitVec.ofNat 32 i ≠ a + BitVec.ofNat 32 k := by
        intro k hk
        rw [add_four_add, BitVec.add_assoc, ← BitVec.ofNat_add]
        exact add_ofNat_ne (by omega) (by omega) (by omega) a
      have hkeep : (if aborts a then m else m.store big .word a v).byte
          (a + 4 + BitVec.ofNat 32 (4 * j) + BitVec.ofNat 32 i) =
            m.byte (a + 4 + BitVec.ofNat 32 (4 * j) + BitVec.ofNat 32 i) := by
        split
        · rfl
        · exact Memory.byte_store_other h _ _ _ _ _ hother
      rw [hkeep]
      rfl

/-! ## The base write-back -/

/-- The base write-back sees the mode and the registers alone. -/
theorem State.writeBase_congr {s u : State} (hm : u.mode = s.mode) (hr : u.regs = s.regs) (t : Transfer) (rn : Reg) :
    u.writeBase t rn = { u with regs := (s.writeBase t rn).regs } := by
  rw [State.writeBase_eq, State.writeBase, State.writeBase]
  split
  · rw [State.setReg_regs_congr hm hr]
  · rw [hr]

end Sys2Proof.Machine

namespace Sys2Proof.Proofs

open Sys2Proof Sys2Proof.Machine Sys2Proof.Claims

/-! ## One access -/

theorem dataRead_of_aborting {s : State} {a : Word} {z : Size} {priv : Bool} (hfeed : s.dbg.feed = none)
    (ha : s.env.aborting (z.align a).toNat z .read priv = true) (lock : Bool) :
    ∃ x, s.dataRead a z priv lock = .abort { s with free := s.free + 1, bus := s.bus ++ [x] } := by
  simp only [State.dataRead, hfeed, ha, if_true]
  exact ⟨_, rfl⟩

theorem dataWrite_of_aborting {s : State} {a : Word} {z : Size} {priv : Bool} (hfeed : s.dbg.feed = none)
    (ha : s.env.aborting (z.align a).toNat z .write priv = true) (v : Word) (lock : Bool) :
    ∃ x, s.dataWrite a z v priv lock = .abort { s with bus := s.bus ++ [x] } := by
  simp only [State.dataWrite, hfeed, ha, if_true]
  exact ⟨_, rfl⟩

/-! ## Bursts -/

/-- A property of the k + 1 words from an address up holds of some word if it holds of the first or of some later one. -/
theorem exists_word_succ {p : Word → Prop} {a : Word} {k : Nat} :
    (∃ j < k + 1, p (a + BitVec.ofNat 32 (4 * j))) ↔ p a ∨ ∃ j < k, p (a + 4 + BitVec.ofNat 32 (4 * j)) := by
  simp only [Nat.exists_lt_succ_left, Nat.mul_zero, BitVec.add_zero, add_four_add]

/-- At system speed a burst of reads changes the count of free values, the answers of devices and the record; it aborts where one
of its accesses does. -/
theorem readBurst_of_no_feed {s : State} (hfeed : s.dbg.feed = none) (priv : Bool) (k : Nat) (a : Word) :
    ∃ ds ab t, State.readBurst priv k a s = .ok (ds, ab, t) ∧
      t = { s with free := t.free, env := { s.env with devIn := t.env.devIn }, bus := t.bus } ∧
      (ab = true ↔ ∃ j < k, s.env.aborting (Size.word.align (a + BitVec.ofNat 32 (4 * j))).toNat .word .read priv = true) := by
  induction k generalizing a s with
  | zero => exact ⟨[], false, s, rfl, rfl, by simp⟩
  | succ k ih =>
    rw [exists_word_succ (p := fun b => s.env.aborting (Size.word.align b).toNat .word .read priv = true)]
    cases ha : s.env.aborting (Size.word.align a).toNat .word .read priv with
    | true =>
      obtain ⟨x, hx⟩ := dataRead_of_aborting hfeed ha false
      obtain ⟨ds, ab, t, ht, hframe, _⟩ := ih (s := { s with free := s.free + 1, bus := s.bus ++ [x] }) hfeed (a + 4)
      exact ⟨[], true, t, by simp only [State.readBurst, hx, ht], hframe, by simp⟩
    | false =>
      obtain ⟨v, u, hu, huframe⟩ := dataRead_of_not_aborting hfeed ha false
      have hufeed : u.dbg.feed = none := by rw [huframe]; exact hfeed
      obtain ⟨ds, ab, t, ht, hframe, hab⟩ := ih hufeed (a + 4)
      refine ⟨v :: ds, ab, t, by simp only [State.readBurst, hu, ht], ?_, hab.trans ?_⟩
      · rw [hframe, huframe]
      · rw [huframe]
        simp only [Bool.false_eq_true, false_or]
        rfl

/-- A burst of writes of which each aborts or finds storage stores the words that do not abort at the aligned addresses; besides
only the record changes; it aborts where one of its accesses does. -/
theorem writeBurst_of_aborting_or_writable {s : State} {a : Word} {priv : Bool} {vs : List Word} (hfeed : s.dbg.feed = none)
    (h : ∀ j < vs.length,
      s.env.aborting (Size.word.align (a + BitVec.ofNat 32 (4 * j))).toNat .word .write priv = true ∨
        Writable s (Size.word.align (a + BitVec.ofNat 32 (4 * j))) .word priv) :
    ∃ ab bus, State.writeBurst priv vs a s = .ok (ab, { s with
        mem := Memory.storeWordsUnless s.env.params.bigend (fun b => s.env.aborting b.toNat .word .write priv) vs
          (Size.word.align a) s.mem
        bus := bus }) ∧
      (ab = true ↔
        ∃ j < vs.length, s.env.aborting (Size.word.align (a + BitVec.ofNat 32 (4 * j))).toNat .word .write priv = true) := by
  induction vs generalizing a s with
  | nil => exact ⟨false, s.bus, rfl, by simp⟩
  | cons v vs ih =>
    have h0 := h 0 (Nat.succ_pos _)
    rw [Nat.mul_zero, BitVec.add_zero] at h0
    have hrest : ∀ j < vs.length,
        s.env.aborting (Size.word.align (a + 4 + BitVec.ofNat 32 (4 * j))).toNat .word .write priv = true ∨
          Writable s (Size.word.align (a + 4 + BitVec.ofNat 32 (4 * j))) .word priv := by
      intro j hj
      rw [add_four_add]
      exact h (j + 1) (Nat.succ_lt_succ hj)
    have hnext : Size.word.align (a + 4) = Size.word.align a + 4 := Size.align_word_add a 1
    rw [List.length_cons, exists_word_succ (p := fun b => s.env.aborting (Size.word.align b).toNat .word .write priv = true)]
    cases ha : s.env.aborting (Size.word.align a).toNat .word .write priv with
    | true =>
      obtain ⟨x, hx⟩ := dataWrite_of_aborting hfeed ha v false
      obtain ⟨ab, bus, hb, _⟩ := ih (s := { s with bus := s.bus ++ [x] }) hfeed hrest
      refine ⟨true, bus, ?_, by simp⟩
      simp only [State.writeBurst, hx, hb, hnext, Memory.storeWordsUnless, ha, if_true]
    | false =>
      have hw := h0.resolve_left (by simp [ha])
      obtain ⟨ab, bus, hb, hab⟩ := ih (s := { s with
          mem := s.mem.store s.env.params.bigend .word (Size.word.align a) v
          bus := s.bus ++ [writeAccess s a .word v priv false] }) hfeed hrest
      refine ⟨ab, bus, ?_, by simpa using hab⟩
      simp only [State.writeBurst, dataWrite_of_writable hw, hb, hnext, Memory.storeWordsUnless, ha, Bool.false_eq_true, if_false]

end Sys2Proof.Proofs
end

section
/-! PROOFS. What single transfers, swaps, LDC and STC come to where they load r15 and where their accesses
abort. -/

namespace Sys2Proof.Proofs

open Sys2Proof Sys2Proof.Machine Sys2Proof.Claims

/-! ## The value of a load -/

theorem ror_zero (d : Word) : ror d 0 = d := by simp [ror, BitVec.rotateRight_def]

/-- What a load delivers from an aligned address is extended as rule R84 says; a word is not rotated. -/
theorem extend_value_of_aligned {k : LoadKind} {a : Word} (h : k.size.aligned a = true) (big : Bool) (m : Memory) :
    k.extend a (m.value big k.size a) = loaded k big m a := by
  cases k with
  | word =>
    have hmod : a.toNat % 4 = 0 := by
      have ha := Size.toNat_align_word a
      rw [Size.align_of_aligned (z := .word) h] at ha
      omega
    simp only [LoadKind.extend, hmod, Nat.mul_zero, ror_zero]
    rfl
  | byte | half => rfl
  | signedByte =>
    simp only [LoadKind.extend, LoadKind.size, Memory.value, signByte, loaded,
      BitVec.setWidth_setWidth_of_le _ (show 8 ≤ 32 by decide), BitVec.setWidth_eq]
  | signedHalf =>
    simp only [LoadKind.extend, LoadKind.size, Memory.value, signHalf, loaded,
      BitVec.setWidth_setWidth_of_le _ (show 16 ≤ 32 by decide), BitVec.setWidth_eq]

/-! ## A load of r15 -/

/-- A load of r15 that finds memory: the base, the record of the read, and the branch. -/
theorem singleLoad_pc_of_readable {k : LoadKind} {user : Bool} {tr : Transfer} {rn : Reg} {s : State}
    (hal : k.size.aligned tr.addr = true) (h : Readable s tr.addr k.size (s.isPriv && !user)) :
    singleLoad k user tr rn 15#4 s = .next (State.branchTo
      { s with
        regs := (s.writeBase tr rn).regs
        bus := s.bus ++ [readAccess s tr.addr k.size (s.isPriv && !user) false] }
      (loaded k s.env.params.bigend s.mem tr.addr)) := by
  rw [← Size.align_of_aligned hal] at h
  simp only [singleLoad, loadMisaligned_of_aligned hal, hal, Bool.not_true, Bool.and_false, Bool.or_self, Bool.false_eq_true,
    if_false, dataRead_of_readable h, Size.align_of_aligned hal, extend_value_of_aligned hal]
  rw [State.writeBase_congr (s := s) (by rfl) (by rfl)]
  rfl

/-- Of the transfers of rule R258 only those of a word may name r15. -/
theorem rd_ne_pc_of_transfer {wb : Bool} {rn rd : Reg} {rm : Option Reg}
    (h : Restriction.transfer false wb rn rd rm = none) : rd ≠ 15#4 := by
  have hpc : (isPc rd && !false) = false :=
    firstOf_eq_none h (_, .transferPc) (.tail _ (.tail _ (.tail _ (.tail _ (.head _)))))
  rintro rfl
  cases hpc

theorem rd_ne_pc_of_halfword {p w : Bool} {rn rd : Reg} {rm : Option Reg}
    (h : Restriction.halfword p w rn rd rm = none) : rd ≠ 15#4 := by
  unfold Restriction.halfword at h
  split at h
  · cases h
  · exact rd_ne_pc_of_transfer h

/-- Only LDR loads r15 (rule R265). -/
theorem word_of_loadForm_pc {i : Instr} {f : Single LoadKind} {s : State} (h : loadForm s i = some f) (hv : i.violation = none)
    (hrd : f.rd = 15#4) : f.kind = .word ∧ isThumb i = false := by
  have hres := restriction_of_violation hv
  have hlow : ∀ r : LReg, r.reg ≠ 15#4 := by decide
  cases i with
  | ldrImm | ldrImmPost | ldrReg | ldrRegPost => cases h; exact ⟨rfl, rfl⟩
  | ldrbImm | ldrbImmPost | ldrbReg | ldrbRegPost | ldrtImm | ldrtReg | ldrbtImm | ldrbtReg =>
    cases h; exact absurd hrd (rd_ne_pc_of_transfer hres)
  | ldrhReg | ldrhImm | ldrsbReg | ldrsbImm | ldrshReg | ldrshImm => cases h; exact absurd hrd (rd_ne_pc_of_halfword hres)
  | tLdrPc | tLdrsbReg | tLdrReg | tLdrhReg | tLdrbReg | tLdrshReg | tLdrImm | tLdrbImm | tLdrhImm | tLdrSp =>
    cases h; exact absurd hrd (hlow _)
  | _ => cases h

/-! ## Data Aborts -/

theorem singleLoad_of_aborting {k : LoadKind} {user : Bool} {tr : Transfer} {rn rd : Reg} {s : State} (hfeed : s.dbg.feed = none)
    (hal : k.size.aligned tr.addr = true) (ha : s.env.aborting tr.addr.toNat k.size .read (s.isPriv && !user) = true) :
    ∃ x, singleLoad k user tr rn rd s = .next (State.takeException
      { s with regs := (s.writeBase tr rn).regs, free := s.free + 1, bus := s.bus ++ [x] } .dabt) := by
  rw [← Size.align_of_aligned hal] at ha
  obtain ⟨x, hx⟩ := dataRead_of_aborting hfeed ha false
  refine ⟨x, ?_⟩
  simp only [singleLoad, loadMisaligned_of_aligned hal, hal, Bool.not_true, Bool.and_false, Bool.or_self, Bool.false_eq_true,
    if_false, hx]
  rw [State.writeBase_congr (s := s) (by rfl) (by rfl)]

theorem singleStore_of_aborting {z : Size} {user : Bool} {tr : Transfer} {rn rd : Reg} {s : State} (hfeed : s.dbg.feed = none)
    (hal : z.aligned tr.addr = true) (ha : s.env.aborting tr.addr.toNat z .write (s.isPriv && !user) = true) :
    ∃ x, singleStore z user tr rn rd s = .next (State.takeException
      { s with regs := (s.writeBase tr rn).regs, bus := s.bus ++ [x] } .dabt) := by
  rw [← Size.align_of_aligned hal] at ha
  obtain ⟨x, hx⟩ := dataWrite_of_aborting hfeed ha (s.regAhead rd) false
  refine ⟨x, ?_⟩
  simp only [singleStore, busMisaligned_of_aligned hal, Bool.false_eq_true, if_false, hx]
  rw [State.writeBase_congr (s := s) (by rfl) (by rfl)]

theorem swap_of_read_aborting {k : LoadKind} {rn rd rm : Reg} {s : State} (hfeed : s.dbg.feed = none)
    (hal : k.size.aligned (s.reg rn) = true) (ha : s.env.aborting (s.reg rn).toNat k.size .read s.isPriv = true) :
    ∃ x, swap k rn rd rm s = .next (State.takeException { s with free := s.free + 1, bus := s.bus ++ [x] } .dabt) := by
  rw [← Size.align_of_aligned hal] at ha
  obtain ⟨x, hx⟩ := dataRead_of_aborting hfeed ha true
  refine ⟨x, ?_⟩
  simp only [swap, loadMisaligned_of_aligned hal, Bool.false_eq_true, if_false, hx]

theorem swap_of_write_aborting {k : LoadKind} {rn rd rm : Reg} {s : State} (hal : k.size.aligned (s.reg rn) = true)
    (hr : Readable s (s.reg rn) k.size s.isPriv) (ha : s.env.aborting (s.reg rn).toNat k.size .write s.isPriv = true) :
    ∃ x, swap k rn rd rm s = .next (State.takeException
      { s with bus := s.bus ++ [readAccess s (s.reg rn) k.size s.isPriv true, x] } .dabt) := by
  have hfeed := hr.1
  rw [← Size.align_of_aligned hal] at hr ha
  obtain ⟨x, hx⟩ := dataWrite_of_aborting (s := { s with bus := s.bus ++ [readAccess s (s.reg rn) k.size s.isPriv true] })
    hfeed ha (s.reg rm) true
  refine ⟨x, ?_⟩
  simp only [swap, loadMisaligned_of_aligned hal, Bool.false_eq_true, if_false, dataRead_of_readable hr, hx, List.append_assoc]
  rfl

/-- What SWP and SWPB execute. -/
theorem exec_swap {cond : Cond} {byte : Bool} {rn rd rm : Reg} {s : State}
    (hr : Runs (if byte then .swpb cond rn rd rm else .swp cond rn rd rm) [rn, rm] s) :
    exec (if byte then .swpb cond rn rd rm else .swp cond rn rd rm) s =
      swap (if byte then .byte else .word) rn rd rm s.begun := by
  cases byte with
  | true => exact exec_swpb hr
  | false => exact exec_swp hr

/-! ## Data Aborts of LDC and STC -/

theorem writeCopBase_eq_writeBase (s : State) (t : Transfer) (rn : Reg) : s.writeCopBase t rn = s.writeBase t rn := rfl

/-- The registers after the base write-back of rule R333. -/
theorem writeBase_copTransfer_regs (s : State) (p u w : Bool) (rn : Reg) (base : Word) (off : BitVec 8) :
    (s.writeBase (copTransfer p u w base off) rn).regs =
      if w then (s.setReg rn (copTransfer p u w base off).newBase).regs else s.regs := by
  cases w <;> rfl

section

variable {i : Instr} {p u l w : Bool} {rn : Reg} {crd n : BitVec 4} {off : BitVec 8} {o : CopOffer} {c : CopPort} {r : CopRule}
  {t : Transfer} {s : State}

/-- What LDC comes to once its coprocessor has accepted and its burst is read: the coprocessor is told, the base is written back, and
the Data Abort is taken or the instruction goes on. -/
theorem ldc_of_readBurst {ds : List Word} {ab : Bool} {v : State} (ho : o = memoryOffer .ldc n crd l s.fetchPriv)
    (ht : t = copTransfer p u w (s.reg rn) off) (hn : n ≠ 14#4) (ha : Accepts s o c r)
    (hres : Restriction.coprocessorTransfer p w rn = none) (hz : s.hazard [rn] = false)
    (hmis : s.begun.loadMisaligned t.addr .word = false)
    (hburst : State.readBurst s.isPriv (r.takesMore.length + 1) t.addr s.begun = .ok (ds, ab, v)) :
    ldc i p u l w rn crd n off s s.begun =
      if ab then .next (((v.requested o r ds ds ab).writeBase t rn).takeException .dabt)
      else ((v.requested o r ds ds ab).writeBase t rn).advance := by
  subst ho ht
  rw [ldc]
  refine (if_neg hn).trans ((handshake_of_accepts (s := s.begun) ha _).trans ?_)
  simp only [hres, hz, State.reg_begun, hmis, State.isPriv_begun, hburst, Bool.false_eq_true, if_false, writeCopBase_eq_writeBase]

/-- What STC comes to once its coprocessor has accepted and its burst is written, as for LDC. -/
theorem stc_of_writeBurst {ab : Bool} {v : State} (ho : o = memoryOffer .stc n crd l s.fetchPriv)
    (ht : t = copTransfer p u w (s.reg rn) off) (hn : n ≠ 14#4) (ha : Accepts s o c r)
    (hres : Restriction.coprocessorTransfer p w rn = none) (hz : s.hazard [rn] = false)
    (hmis : s.begun.busMisaligned t.addr .word = false)
    (hburst : State.writeBurst s.isPriv (c.given r) t.addr s.begun = .ok (ab, v)) :
    stc i p u l w rn crd n off s s.begun =
      if ab then .next (((v.requested o r [] (c.given r) ab).writeBase t rn).takeException .dabt)
      else ((v.requested o r [] (c.given r) ab).writeBase t rn).advance := by
  subst ho ht
  rw [stc]
  refine (if_neg hn).trans ((handshake_of_accepts (s := s.begun) ha _).trans ?_)
  simp only [hres, hz, State.reg_begun, hmis, State.isPriv_begun, hburst, Bool.false_eq_true, if_false, writeCopBase_eq_writeBase]

/-- LDC with an access that aborts: the base, what the coprocessor took, and the Data Abort. -/
theorem ldc_of_aborting (ho : o = memoryOffer .ldc n crd l s.fetchPriv) (ht : t = copTransfer p u w (s.reg rn) off)
    (hn : n ≠ 14#4) (ha : Accepts s o c r) (hres : Restriction.coprocessorTransfer p w rn = none) (hz : s.hazard [rn] = false)
    (hfeed : s.dbg.feed = none) (hal : Size.word.aligned t.addr = true)
    (hab : ∃ k < r.takesMore.length + 1,
      s.env.aborting (t.addr + BitVec.ofNat 32 (4 * k)).toNat .word .read s.isPriv = true) :
    ∃ (data : List Word) (v : State), ldc i p u l w rn crd n off s s.begun = .next (v.takeException .dabt) ∧
      v = { s.begun with
        regs := (s.writeBase t rn).regs
        env := v.env
        cop := s.cop ++ [⟨o, data, true⟩]
        bus := v.bus
        free := v.free } := by
  obtain ⟨ds, ab, v, hburst, hframe, habiff⟩ := readBurst_of_no_feed (s := s.begun) hfeed s.isPriv
    (r.takesMore.length + 1) t.addr
  simp only [Size.align_word_add, Size.align_of_aligned hal] at habiff
  obtain rfl : ab = true := habiff.mpr hab
  refine ⟨ds, _, ldc_of_readBurst ho ht hn ha hres hz (loadMisaligned_of_aligned hal) hburst, ?_⟩
  rw [State.writeBase_congr (s := s) (by rw [hframe]; rfl) (by rw [hframe]; rfl), State.requested, hframe]
  rfl

/-- STC with an access that aborts, the others finding storage: the base, the words that do not abort, what the coprocessor is told,
and the Data Abort. -/
theorem stc_of_aborting (ho : o = memoryOffer .stc n crd l s.fetchPriv) (ht : t = copTransfer p u w (s.reg rn) off)
    (hn : n ≠ 14#4) (ha : Accepts s o c r) (hres : Restriction.coprocessorTransfer p w rn = none) (hz : s.hazard [rn] = false)
    (hfeed : s.dbg.feed = none) (hal : Size.word.aligned t.addr = true)
    (hab : ∃ k < (c.given r).length,
      s.env.aborting (t.addr + BitVec.ofNat 32 (4 * k)).toNat .word .write s.isPriv = true)
    (hw : ∀ k < (c.given r).length,
      s.env.aborting (t.addr + BitVec.ofNat 32 (4 * k)).toNat .word .write s.isPriv = true ∨
        Writable s (t.addr + BitVec.ofNat 32 (4 * k)) .word s.isPriv) :
    ∃ bus, stc i p u l w rn crd n off s s.begun = .next (State.takeException
      { s.begun with
        regs := (s.writeBase t rn).regs
        mem := Memory.storeWordsUnless s.env.params.bigend (fun b => s.env.aborting b.toNat .word .write s.isPriv) (c.given r)
          t.addr s.mem
        env := s.env.withResponder o (fun q => q.executed r [] true)
        cop := s.cop ++ [⟨o, c.given r, true⟩]
        bus := bus } .dabt) := by
  have haddr : ∀ k, Size.word.align (t.addr + BitVec.ofNat 32 (4 * k)) = t.addr + BitVec.ofNat 32 (4 * k) := by
    intro k
    rw [Size.align_word_add, Size.align_of_aligned hal]
  obtain ⟨ab, bus, hburst, habiff⟩ := writeBurst_of_aborting_or_writable (s := s.begun) (priv := s.isPriv) (vs := c.given r)
    (a := t.addr) hfeed (by simp only [haddr]; exact hw)
  simp only [haddr] at habiff
  obtain rfl : ab = true := habiff.mpr hab
  refine ⟨bus, (stc_of_writeBurst ho ht hn ha hres hz (busMisaligned_of_aligned hal) hburst).trans ?_⟩
  rw [State.writeBase_congr (s := s) (by rfl) (by rfl), Size.align_of_aligned hal]
  rfl

end

/-- Memory after a row of words of which some abort: those words as before, the others read back, every other byte as before. -/
theorem storeWordsUnless_result {m : Memory} (h : m.wf = true) (big : Bool) (aborts : Word → Bool) (vs : List Word) (a : Word)
    (hl : 4 * vs.length < 2^32) :
    (Memory.storeWordsUnless big aborts vs a m).wf = true ∧
    (∀ k < vs.length,
      if aborts (a + BitVec.ofNat 32 (4 * k)) then
        ∀ j < 4, (Memory.storeWordsUnless big aborts vs a m).byte (a + BitVec.ofNat 32 (4 * k) + BitVec.ofNat 32 j) =
          m.byte (a + BitVec.ofNat 32 (4 * k) + BitVec.ofNat 32 j)
      else (Memory.storeWordsUnless big aborts vs a m).word big (a + BitVec.ofNat 32 (4 * k)) = vs.getD k 0) ∧
    ∀ b : Word, (∀ k < 4 * vs.length, b ≠ a + BitVec.ofNat 32 k) →
      (Memory.storeWordsUnless big aborts vs a m).byte b = m.byte b := by
  refine ⟨Memory.storeWordsUnless_wf h .., fun k hk => ?_, Memory.byte_storeWordsUnless_other h big aborts vs a⟩
  have hbyte := fun j hj => Memory.byte_storeWordsUnless h big aborts vs a hl hk (i := j) hj
  split
  · next hab => simpa only [hab, if_true] using hbyte
  · next hab =>
    rw [← List.getElem_eq_getD (h := hk)]
    exact Memory.word_eq_of_bytes (by simpa only [hab, Bool.false_eq_true, if_false] using hbyte)

end Sys2Proof.Proofs
end

section
/-! PROOFS. The statements about single loads and stores, and about the Data Aborts of transfers. -/

namespace Sys2Proof.Proofs

open Sys2Proof Sys2Proof.Machine Sys2Proof.Claims

/-! ## Loads and stores -/

/-- Settles O34. -/
theorem loadResult : Obligations.LoadResult := by
  unfold Obligations.LoadResult
  intro i f s hf hr hroom hrd hal hread
  rw [← Size.align_of_aligned hal] at hread
  rw [exec_of_loadForm hf hr, singleLoad_of_readable (s := s.begun) (loadMisaligned_of_aligned hal) hrd hread,
    State.setReg_writeBase_begun_regs, Size.align_of_aligned hal, extend_value_of_aligned hal]
  exact State.advance_of hroom

/-- Settles O35: only LDR can name r15, so the branch is in ARM state and to a word. -/
theorem loadToPcResult : Obligations.LoadToPcResult := by
  unfold Obligations.LoadToPcResult
  intro i f s hf hr hrd hal hread
  have ⟨hthumb, _, hv, _⟩ := hr
  obtain ⟨hk, harm⟩ := word_of_loadForm_pc hf hv hrd
  rw [exec_of_loadForm hf hr, hrd, singleLoad_pc_of_readable (s := s.begun) hal hread, State.writeBase_begun_regs, hk]
  simp only [State.branchTo, State.begun_cpsr, hthumb.trans harm, Bool.false_eq_true, if_false]
  rfl

/-- Settles O36. -/
theorem storeResult : Obligations.StoreResult := by
  unfold Obligations.StoreResult
  intro i f s hf hr hroom hwf hal hwrite
  rw [← Size.align_of_aligned hal] at hwrite
  rw [exec_of_storeForm hf hr, singleStore_of_writable (s := s.begun) (busMisaligned_of_aligned hal) hwrite,
    State.writeBase_begun_regs, Size.align_of_aligned hal]
  exact ⟨_, State.advance_of hroom, stored_store hwf _ _ _⟩

/-! ## Data Aborts -/

/-- Settles O37: every access is made, and an abort ends in the Data Abort after the base write-back; an STC stores the words that
do not abort. -/
theorem transferDataAbort : Obligations.TransferDataAbort := by
  unfold Obligations.TransferDataAbort
  refine ⟨?load, ?store, ?swap, ?cop⟩
  case load =>
    intro i f s hf hr hfeed hal ha
    rw [exec_of_loadForm hf hr]
    obtain ⟨x, hx⟩ := singleLoad_of_aborting (s := s.begun) hfeed hal ha
    refine ⟨x, ?_⟩
    rw [hx, State.writeBase_begun_regs]
    rfl
  case store =>
    intro i f s hf hr hfeed hal ha
    rw [exec_of_storeForm hf hr]
    obtain ⟨x, hx⟩ := singleStore_of_aborting (s := s.begun) hfeed hal ha
    refine ⟨x, ?_⟩
    rw [hx, State.writeBase_begun_regs]
    rfl
  case swap =>
    intro cond byte rn rd rm s i z hr hfeed hal
    have hk : z = LoadKind.size (if byte then .byte else .word) := by cases byte <;> rfl
    rw [exec_swap hr]
    rw [hk] at hal ⊢
    exact ⟨fun ha => swap_of_read_aborting (s := s.begun) hfeed hal ha,
      fun hread ha => swap_of_write_aborting (s := s.begun) hal hread ha⟩
  case cop =>
    intro load cond p u l w rn crd n off o c r s i t at' words kind ho hn ha hr hfeed hwords hal hab hw ws
    have ⟨_, _, hv, _, hz⟩ := hr
    cases load with
    | true =>
      have hres : Restriction.coprocessorTransfer p w rn = none := restriction_of_violation hv
      cases ho
      obtain ⟨data, v, hexec, hframe⟩ := ldc_of_aborting (i := i) rfl rfl hn ha hres hz hfeed hal hab
      rw [writeBase_copTransfer_regs] at hframe
      refine ⟨v, (exec_ldc hr).trans hexec, ?_, fun _ => ⟨?_, data, ?_⟩, nofun⟩ <;> rw [hframe] <;> rfl
    | false =>
      have hres : Restriction.coprocessorTransfer p w rn = none := restriction_of_violation hv
      have hlen : (c.given r).length = words := by simp only [CopPort.given, List.length_map, List.length_cons]; rfl
      cases ho
      rw [← hlen] at hwords
      obtain ⟨bus, hexec⟩ := stc_of_aborting (i := i) rfl rfl hn ha hres hz hfeed hal (by rw [hlen]; exact hab)
        (by rw [hlen]; exact hw rfl)
      rw [writeBase_copTransfer_regs] at hexec
      refine ⟨_, (exec_stc hr).trans hexec, rfl, nofun, fun _ => ⟨rfl, rfl, rfl, fun hwf => ?_⟩⟩
      rw [← hlen]
      exact storeWordsUnless_result hwf _ (fun b => s.env.aborting b.toNat .word .write s.isPriv) (c.given r) t.addr (by omega)

end Sys2Proof.Proofs
end

section
/-! PROOFS. Block transfers that load r15, and block transfers of which accesses abort; before them, which register is the last of a
list and which are its first ones. -/

namespace Sys2Proof.Machine

/-! ## Registers and returns -/

/-- Loading registers changes the registers alone. -/
theorem State.loadRegs_eq (m : Mode) (pairs : List (Reg × Word)) (s : State) :
    State.loadRegs m pairs s = { s with regs := (State.loadRegs m pairs s).regs } := s.loadRegs_of_bus s.bus m pairs

theorem State.mode_loadRegs (m : Mode) (pairs : List (Reg × Word)) (s : State) : (State.loadRegs m pairs s).mode = s.mode := by
  rw [State.loadRegs_eq]
  rfl

/-- In a mode with an SPSR the return restores the CPSR and branches. -/
theorem State.returnTo_of_spsr {s : State} {p : Psr} (h : s.spsr.get s.mode = some p) (v : Word) :
    s.returnTo v = .next (({ s with cpsr := p } : State).branchTo v) := by
  rw [State.returnTo, h]

/-- A register other than r15 reads as it was written. -/
theorem State.reg_setReg_same (s : State) {n : Reg} (hn : n ≠ 15#4) (v : Word) : (s.setReg n v).reg n = v := by
  rw [State.reg, State.mode_setReg, State.setReg, State.regView_setIn s s.mode hn, if_pos rfl]

end Sys2Proof.Machine

namespace Sys2Proof.Proofs

open Sys2Proof Sys2Proof.Machine Sys2Proof.Claims

/-! ## The order of the listed registers -/

/-- A listed register counts below every higher one. -/
theorem rank_lt_rank {list : BitVec 16} {r r' : Reg} (h : inList list r = true) (hlt : r.toNat < r'.toNat) :
    rank list r < rank list r' := by
  have hsub : (List.range (r.toNat + 1)).Sublist (List.range r'.toNat) := List.range_sublist.mpr hlt
  have hle := (hsub.filter fun k => list.getLsbD k).length_le
  have hr : list.getLsbD r.toNat = true := h
  rw [List.range_succ, List.filter_append, List.length_append, List.filter_singleton, hr] at hle
  exact hle

theorem rank_lt_rank_iff {list : BitVec 16} {r r' : Reg} (h : inList list r = true) (h' : inList list r' = true) :
    rank list r < rank list r' ↔ r.toNat < r'.toNat := by
  refine ⟨fun hlt => ?_, rank_lt_rank h⟩
  rcases Nat.lt_trichotomy r.toNat r'.toNat with hr | hr | hr
  · exact hr
  · rw [BitVec.eq_of_toNat_eq hr] at hlt
    exact absurd hlt (Nat.lt_irrefl _)
  · exact absurd hlt (Nat.lt_asymm (rank_lt_rank h' hr))

theorem rank_lt_count {list : BitVec 16} {r : Reg} (h : inList list r = true) : rank list r < count list :=
  (getElem_listed_rank h).1

/-- r15 is the last of a list that holds it. -/
theorem count_of_pc {list : BitVec 16} (h : inList list 15#4 = true) : count list = rank list 15#4 + 1 := by
  have hpc : list.getLsbD 15 = true := h
  rw [count, listed, List.length_map, List.range_succ, List.filter_append, List.length_append, List.filter_singleton, hpc]
  rfl

/-- The register at a place of the list has that place as its rank. -/
theorem rank_getElem_listed {list : BitVec 16} {j : Nat} (hj : j < (listed list).length) : rank list (listed list)[j] = j := by
  have hm := List.getElem_of_eq (map_rank_listed list) (i := j) (by rwa [List.length_map])
  rwa [List.getElem_map, List.getElem_range] at hm

/-- The first registers of the list are those of the lowest ranks. -/
theorem mem_take_listed {list : BitVec 16} {j : Nat} {r : Reg} :
    r ∈ (listed list).take j ↔ inList list r = true ∧ rank list r < j := by
  rw [List.mem_take_iff_getElem]
  constructor
  · rintro ⟨i, hi, rfl⟩
    rw [rank_getElem_listed]
    exact ⟨mem_listed.mp (List.getElem_mem _), (Nat.lt_min.mp hi).1⟩
  · rintro ⟨hr, hj⟩
    obtain ⟨hlt, he⟩ := getElem_listed_rank hr
    exact ⟨rank list r, Nat.lt_min.mpr ⟨hj, hlt⟩, he⟩

/-- The first words of a block transfer go to the first listed registers by rank. -/
theorem zip_listed_range {list : BitVec 16} {j : Nat} (hj : j ≤ count list) (g : Nat → Word) :
    (listed list).zip ((List.range j).map g) = ((listed list).take j).map fun r => (r, g (rank list r)) := by
  have hlen : j ≤ (listed list).length := hj
  refine List.ext_getElem (by simp [hlen]) fun i hi hi' => ?_
  simp [rank_getElem_listed]

/-! ## The operands of a block load -/

/-- The base of a well-formed block load is not r15 (rule R300). -/
theorem loadBlock_rn_ne_pc {i : Instr} {f : Block} (h : loadBlock i = some f) (hv : i.violation = none) : f.rn ≠ 15#4 := by
  have hres := restriction_of_violation hv
  have hldm : ∀ sf w rn list, Restriction.loadMultiple sf w rn list = none → rn ≠ 15#4 := by
    intro sf w rn list hr
    have hpc : isPc rn = false := firstOf_eq_none hr (_, .blockBasePc) (.tail _ (.head _))
    rintro rfl
    cases hpc
  cases i with
  | ldmia | ldmib | ldmda | ldmdb | tLdmia => cases h; exact hldm _ _ _ _ hres
  | tPop => cases h; exact (by decide : (13#4 : Reg) ≠ 15#4)
  | _ => cases h

/-- The words of a transfer that starts at an aligned address are aligned. -/
theorem align_addr {f : Block} {s : State} (hal : Size.word.aligned (f.start s) = true) (k : Nat) :
    Size.word.align (f.addr s k) = f.addr s k := by
  rw [Block.addr, Size.align_word_add, Size.align_of_aligned hal]

/-! ## Block loads by the answer of their burst -/

/-- A block load that would return from an exception is refused in a mode without SPSR. -/
theorem blockLoad_of_noSpsr {f : Block} {s : State} (hal : Size.word.aligned (f.start s) = true) (hsb : f.sb = true)
    (hpc : inList f.list 15#4 = true) (hspsr : s.spsr.get s.mode = none) :
    blockLoad f.mode f.sb f.w f.rn f.list s = .refused .noSpsr := by
  have hal' : Size.word.aligned (f.mode.start (s.reg f.rn) f.list) = true := hal
  simp only [blockLoad, busMisaligned_of_aligned hal', hal', hsb, hpc, hspsr, Option.isNone_none, Bool.not_true, Bool.and_false,
    Bool.false_and, Bool.or_self, Bool.and_self, Bool.false_eq_true, if_false, if_true]

section

variable {f : Block} {s u : State} {ds : List Word}

/-- A block load of which an access aborts: the words before it, the base, and the Data Abort. -/
theorem blockLoad_of_aborted (hal : Size.word.aligned (f.start s) = true)
    (hspsr : f.sb = true → inList f.list 15#4 = true → s.spsr.get s.mode ≠ none)
    (hburst : State.readBurst s.isPriv (count f.list) (f.start s) s = .ok (ds, true, u)) :
    blockLoad f.mode f.sb f.w f.rn f.list s = .next (State.takeException
      ((State.loadRegs (blockBank s (f.sb && !inList f.list 15#4)) ((listed f.list).zip ds) u).setReg f.rn
        (if f.w then f.newBase s else s.reg f.rn)) .dabt) := by
  have hal' : Size.word.aligned (f.mode.start (s.reg f.rn) f.list) = true := hal
  have hburst' : State.readBurst s.isPriv (listed f.list).length (f.mode.start (s.reg f.rn) f.list) s = _ := hburst
  have hnone : ¬ (f.sb && inList f.list 15#4 && (s.spsr.get s.mode).isNone) = true := by
    simpa only [Bool.and_eq_true, Option.isNone_iff_eq_none, not_and, and_imp] using hspsr
  simp only [blockLoad, busMisaligned_of_aligned hal', hal', hburst', if_neg hnone, Bool.not_true, Bool.and_false,
    Bool.false_and, Bool.or_self, Bool.false_eq_true, if_false, if_true]
  rfl

/-- A block load of r15 of which no access aborts: the base, the words, and the branch to the last word, with `^` a return. -/
theorem blockLoad_pc_of_completed (hal : Size.word.aligned (f.start s) = true) (hpc : inList f.list 15#4 = true)
    (hspsr : f.sb = true → s.spsr.get s.mode ≠ none)
    (hburst : State.readBurst s.isPriv (count f.list) (f.start s) s = .ok (ds, false, u)) :
    blockLoad f.mode f.sb f.w f.rn f.list s =
      if f.sb then
        (State.loadRegs s.mode ((listed f.list).zip ds) (if f.w then u.setReg f.rn (f.newBase s) else u)).returnTo
          (ds.getLast?.getD 0)
      else .next ((State.loadRegs s.mode ((listed f.list).zip ds)
        (if f.w then u.setReg f.rn (f.newBase s) else u)).branchTo (ds.getLast?.getD 0)) := by
  have hal' : Size.word.aligned (f.mode.start (s.reg f.rn) f.list) = true := hal
  have hburst' : State.readBurst s.isPriv (listed f.list).length (f.mode.start (s.reg f.rn) f.list) s = _ := hburst
  have hnone : ¬ (f.sb && true && (s.spsr.get s.mode).isNone) = true := by
    simpa only [Bool.and_true, Bool.and_eq_true, Option.isNone_iff_eq_none, not_and] using hspsr
  simp only [blockLoad, busMisaligned_of_aligned hal', hal', hpc, hburst', if_neg hnone, Bool.not_true, Bool.and_false,
    Bool.false_and, Bool.or_self, Bool.false_eq_true, if_false, if_true]
  rfl

end

/-! ## A block load of r15 -/

/-- The word of r15 is the last of the words read. -/
theorem getLast_words_of_pc {list : BitVec 16} (hpc : inList list 15#4 = true) (g : Nat → Word) :
    ((List.range (count list)).map g).getLast?.getD 0 = g (rank list 15#4) := by
  rw [count_of_pc hpc, List.range_succ, List.map_append, List.map_singleton, List.getLast?_concat, Option.getD_some]

/-- A block load of r15 that finds memory: the registers of the current mode, the record, and the branch to the last word, which with
`^` is a return. -/
theorem blockLoad_pc_of_readable {f : Block} {s : State} (hpc : inList f.list 15#4 = true)
    (hspsr : f.sb = true → s.spsr.get s.mode ≠ none) (hal : Size.word.aligned (f.start s) = true)
    (h : ∀ k < count f.list, Readable s (f.addr s k) .word s.isPriv) :
    ∃ regs bus, BlockLoaded f s.mode s regs ∧
      blockLoad f.mode f.sb f.w f.rn f.list s =
        if f.sb then
          State.returnTo { s with regs := regs, bus := bus } (s.mem.word s.env.params.bigend (f.addr s (rank f.list 15#4)))
        else .next (State.branchTo { s with regs := regs, bus := bus }
          (s.mem.word s.env.params.bigend (f.addr s (rank f.list 15#4)))) := by
  have haddr : ∀ k, Size.word.align (f.start s + BitVec.ofNat 32 (4 * k)) = f.addr s k := align_addr hal
  obtain ⟨bus, hburst⟩ := readBurst_of_readable (s := s) (a := f.start s) (priv := s.isPriv) (k := count f.list)
    (by simpa only [haddr] using h)
  simp only [haddr] at hburst
  refine ⟨_, bus, blockLoadedFrom_loadRegs (f.addr s) fun _ => rfl, ?_⟩
  rw [blockLoad_pc_of_completed hal hpc hspsr hburst, setReg_newBase_of_access f s s.mem bus, zip_listed,
    getLast_words_of_pc hpc, State.loadRegs_of_bus { s with regs := f.baseRegs s } bus]

/-! ## A block load of which an access aborts -/

/-- A burst of reads whose accesses find memory up to one that aborts delivers the words before it; besides only the count of free
values, the answers of devices and the record change. -/
theorem readBurst_of_first_aborting {s : State} {a : Word} {priv : Bool} {j k : Nat} (hfeed : s.dbg.feed = none) (hj : j < k)
    (ha : s.env.aborting (Size.word.align (a + BitVec.ofNat 32 (4 * j))).toNat .word .read priv = true)
    (h : ∀ i < j, Readable s (Size.word.align (a + BitVec.ofNat 32 (4 * i))) .word priv) :
    ∃ t, State.readBurst priv k a s = .ok
        ((List.range j).map (fun i => s.mem.word s.env.params.bigend (Size.word.align (a + BitVec.ofNat 32 (4 * i)))), true, t) ∧
      t = { s with free := t.free, env := { s.env with devIn := t.env.devIn }, bus := t.bus } := by
  obtain ⟨k, rfl⟩ := Nat.exists_eq_succ_of_ne_zero (Nat.ne_zero_of_lt hj)
  induction j generalizing a s k with
  | zero =>
    rw [Nat.mul_zero, BitVec.add_zero] at ha
    obtain ⟨x, hx⟩ := dataRead_of_aborting hfeed ha false
    obtain ⟨ds, ab, t, ht, hframe, _⟩ :=
      readBurst_of_no_feed (s := { s with free := s.free + 1, bus := s.bus ++ [x] }) hfeed priv k (a + 4)
    exact ⟨t, by simp only [State.readBurst, hx, ht]; rfl, hframe⟩
  | succ j ih =>
    have h0 := h 0 (Nat.succ_pos j)
    rw [Nat.mul_zero, BitVec.add_zero] at h0
    obtain ⟨k, rfl⟩ := Nat.exists_eq_succ_of_ne_zero (Nat.ne_zero_of_lt (Nat.lt_of_succ_lt_succ hj))
    obtain ⟨t, ht, hframe⟩ := ih (s := { s with bus := s.bus ++ [readAccess s a .word priv false] }) (a := a + 4) hfeed
      (by rw [add_four_add]; exact ha)
      (fun i hi => by rw [add_four_add]; exact h (i + 1) (Nat.succ_lt_succ hi)) k (Nat.lt_of_succ_lt_succ hj)
    refine ⟨t, ?_, hframe⟩
    rw [State.readBurst, dataRead_of_readable h0]
    simp only [ht, List.range_succ_eq_map, List.map_cons, List.map_map, Nat.mul_zero, BitVec.add_zero, add_four_add]
    rfl

/-- The state in which a block load with an aborted access takes the Data Abort: the first listed registers hold their words, then the
base its value. -/
theorem blockLoad_of_first_aborting {f : Block} {s : State} {j : Nat} (hfeed : s.dbg.feed = none)
    (hspsr : f.sb = true → inList f.list 15#4 = true → s.spsr.get s.mode ≠ none)
    (hal : Size.word.aligned (f.start s) = true) (hj : j < count f.list)
    (ha : s.env.aborting (f.addr s j).toNat .word .read s.isPriv = true)
    (h : ∀ k < j, Readable s (f.addr s k) .word s.isPriv) :
    ∃ t : State, t = { s with free := t.free, env := { s.env with devIn := t.env.devIn }, bus := t.bus } ∧
      blockLoad f.mode f.sb f.w f.rn f.list s = .next (State.takeException
        ((State.loadRegs (blockBank s (f.sb && !inList f.list 15#4))
          (((listed f.list).take j).map fun r => (r, s.mem.word s.env.params.bigend (f.addr s (rank f.list r)))) t).setReg f.rn
          (if f.w then f.newBase s else s.reg f.rn)) .dabt) := by
  have haddr : ∀ k, Size.word.align (f.start s + BitVec.ofNat 32 (4 * k)) = f.addr s k := align_addr hal
  obtain ⟨t, hburst, hframe⟩ := readBurst_of_first_aborting (a := f.start s) (priv := s.isPriv) hfeed hj
    (by simpa only [haddr] using ha) (by simpa only [haddr] using h)
  simp only [haddr] at hburst
  refine ⟨t, hframe, ?_⟩
  rw [blockLoad_of_aborted hal hspsr hburst, zip_listed_range hj.le]

/-- The registers of a bank after the first words of a block load: a listed register of low rank holds its word, every other
register of the machine what it held. -/
theorem loadRegs_take_get (bank : Mode) (list : BitVec 16) (j : Nat) (g : Reg → Word) (s : State) (p : PhysReg) :
    (∀ r, phys bank r = some p →
      (State.loadRegs bank (((listed list).take j).map fun r => (r, g r)) s).regs.get p =
        if inList list r = true ∧ rank list r < j then g r else s.regs.get p) ∧
    ((∀ r, phys bank r ≠ some p) →
      (State.loadRegs bank (((listed list).take j).map fun r => (r, g r)) s).regs.get p = s.regs.get p) := by
  refine ⟨fun r hp => ?_, fun hp => State.loadRegs_get_unnamed hp _ s⟩
  have hr : r ≠ 15#4 := by
    rintro rfl
    rw [phys_pc] at hp
    cases hp
  rw [State.loadRegs_map_get bank g _ s hr hp]
  simp only [mem_take_listed]

/-! ## A block store of which an access aborts -/

/-- A block store of which accesses abort and the others find storage: the base, the words that do not abort, the record, and the
Data Abort. -/
theorem blockStore_of_aborting {f : Block} {s : State} (hfeed : s.dbg.feed = none) (hal : Size.word.aligned (f.start s) = true)
    (hab : ∃ k < count f.list, s.env.aborting (f.addr s k).toNat .word .write s.isPriv = true)
    (h : ∀ k < count f.list, s.env.aborting (f.addr s k).toNat .word .write s.isPriv = true ∨
      Writable s (f.addr s k) .word s.isPriv) :
    ∃ bus, blockStore f.mode f.sb f.w f.rn f.list s = .next (State.takeException
      { s with
        regs := f.baseRegs s
        mem := Memory.storeWordsUnless s.env.params.bigend (fun b => s.env.aborting b.toNat .word .write s.isPriv)
          ((listed f.list).map (s.regView (blockBank s f.sb) (s.pc + 12))) (f.start s) s.mem
        bus := bus } .dabt) := by
  have haddr : ∀ k, Size.word.align (f.start s + BitVec.ofNat 32 (4 * k)) = f.addr s k := align_addr hal
  obtain ⟨ab, bus, hburst, habiff⟩ := writeBurst_of_aborting_or_writable (a := f.start s) (s := s) (priv := s.isPriv)
    (vs := (listed f.list).map (s.regView (blockBank s f.sb) (s.pc + 12))) hfeed
    (by rw [List.length_map]; simp only [haddr]; exact h)
  simp only [haddr, List.length_map] at habiff
  obtain rfl : ab = true := habiff.mpr hab
  rw [Size.align_of_aligned hal] at hburst
  have hburst' : State.writeBurst s.isPriv _ (f.mode.start (s.reg f.rn) f.list) s = _ := hburst
  have hmis : s.busMisaligned (f.mode.start (s.reg f.rn) f.list) .word = false := busMisaligned_of_aligned hal
  refine ⟨bus, ?_⟩
  simp only [blockStore, hmis, hburst', Bool.false_eq_true, if_false, if_true]
  exact congrArg (fun t : State => Host.Outcome.next (t.takeException .dabt)) (setReg_newBase_of_access f s _ bus)

/-- The words of a block store of which some abort: a listed register whose word aborts leaves its bytes as before, every other one
reads back at its rank, and every byte outside the block is as before. -/
theorem storeWordsUnless_listed {m : Memory} (h : m.wf = true) (big : Bool) (aborts : Word → Bool) (list : BitVec 16)
    (g : Reg → Word) (a : Word) :
    (Memory.storeWordsUnless big aborts ((listed list).map g) a m).wf = true ∧
    (∀ r, inList list r = true →
      if aborts (a + BitVec.ofNat 32 (4 * rank list r)) then
        ∀ k < 4, (Memory.storeWordsUnless big aborts ((listed list).map g) a m).byte
            (a + BitVec.ofNat 32 (4 * rank list r) + BitVec.ofNat 32 k) =
          m.byte (a + BitVec.ofNat 32 (4 * rank list r) + BitVec.ofNat 32 k)
      else (Memory.storeWordsUnless big aborts ((listed list).map g) a m).word big (a + BitVec.ofNat 32 (4 * rank list r)) =
        g r) ∧
    (∀ b : Word, (∀ k < 4 * count list, b ≠ a + BitVec.ofNat 32 k) →
      (Memory.storeWordsUnless big aborts ((listed list).map g) a m).byte b = m.byte b) := by
  have hcount : (listed list).length ≤ 16 := count_le list
  obtain ⟨hwf, hword, hother⟩ := storeWordsUnless_result h big aborts ((listed list).map g) a (by rw [List.length_map]; omega)
  rw [List.length_map] at hword hother
  refine ⟨hwf, fun r hr => ?_, hother⟩
  obtain ⟨hlt, he⟩ := getElem_listed_rank hr
  have hval : ((listed list).map g).getD (rank list r) 0 = g r := by
    rw [← List.getElem_eq_getD (h := by rwa [List.length_map]), List.getElem_map, he]
  exact hval ▸ hword _ hlt

end Sys2Proof.Proofs
end

section
/-! PROOFS. The statements about block transfers. -/

namespace Sys2Proof.Proofs

open Sys2Proof Sys2Proof.Machine Sys2Proof.Claims

/-- Settles O40. -/
theorem blockAddresses : Obligations.BlockAddresses := by
  unfold Obligations.BlockAddresses
  intro base list
  exact ⟨rfl, rfl, rfl, rfl, rfl, rfl, rfl, rfl, fun _ _ => rank_lt_rank_iff, fun _ => rank_lt_count⟩

/-- Settles O41. -/
theorem loadMultipleResult : Obligations.LoadMultipleResult := by
  unfold Obligations.LoadMultipleResult
  intro i f s hf hr hroom hpc hal hread
  have ⟨_, _, hv, _⟩ := hr
  obtain ⟨regs, bus, he, hregs⟩ := blockLoad_of_readable (s := s.begun) hpc (loadBlock_userBank hf hv hpc)
    (busMisaligned_of_aligned hal) fun k hk => (align_addr hal k).symm ▸ hread k hk
  have haddr : (fun k => Size.word.align (f.addr s.begun k)) = f.addr s := funext (align_addr hal)
  rw [haddr] at hregs
  rw [exec_of_loadBlock hf hr, he]
  exact ⟨_, State.advance_of hroom, hregs, rfl⟩

/-- Settles O42. -/
theorem loadMultipleToPcResult : Obligations.LoadMultipleToPcResult := by
  unfold Obligations.LoadMultipleToPcResult
  intro i f s hf hr hpc hal hread v
  rw [exec_of_loadBlock hf hr]
  refine ⟨fun p hp => ?_, blockLoad_of_noSpsr (s := s.begun) hal (hpc := hpc)⟩
  have hspsr : f.sb = true → s.spsr.get s.mode ≠ none := by
    intro hsb
    rw [if_pos hsb] at hp
    simp only [hp, ne_eq, reduceCtorEq, not_false_eq_true]
  obtain ⟨regs, bus, hregs, he⟩ := blockLoad_pc_of_readable (s := s.begun) hpc hspsr hal hread
  rw [he]
  cases hsb : f.sb with
  | false =>
    rw [hsb, if_neg Bool.false_ne_true] at hp
    exact ⟨_, rfl, hregs, by rw [hp]; rfl⟩
  | true =>
    rw [hsb, if_pos rfl] at hp
    exact ⟨_, State.returnTo_of_spsr (s := { s.begun with regs := regs, bus := bus }) hp v, hregs, rfl⟩

/-- Settles O43. -/
theorem storeMultipleResult : Obligations.StoreMultipleResult := by
  unfold Obligations.StoreMultipleResult
  intro i f s hf hr hroom hwf hal hwrite
  obtain ⟨bus, he⟩ := blockStore_of_writable (s := s.begun) (busMisaligned_of_aligned hal)
    fun k hk => (align_addr hal k).symm ▸ hwrite k hk
  have hstart : Size.word.align (f.start s.begun) = f.start s := Size.align_of_aligned hal
  rw [hstart] at he
  obtain ⟨hword, hother⟩ := storeWords_listed hwf s.env.params.bigend f.list
    (s.regView (if f.sb then .usr else s.mode) (s.pc + 12)) (f.start s)
  rw [exec_of_storeBlock hf hr, he, baseRegs_begun]
  exact ⟨_, State.advance_of hroom, Memory.storeWords_wf hwf .., hword, hother, rfl⟩

/-- Settles O44: the burst is read or written to its end, and an abort ends in the Data Abort after the base write-back. -/
theorem blockTransferDataAbort : Obligations.BlockTransferDataAbort := by
  unfold Obligations.BlockTransferDataAbort
  refine ⟨?load, ?store⟩
  case load =>
    intro i f s j hf hr hfeed hspsr hal hj ha hread
    have ⟨_, _, hv, _⟩ := hr
    have hrn := loadBlock_rn_ne_pc hf hv
    obtain ⟨t, hframe, he⟩ := blockLoad_of_first_aborting (s := s.begun) hfeed hspsr hal hj ha hread
    refine ⟨_, (exec_of_loadBlock hf hr).trans he, State.reg_setReg_same _ hrn _, fun p hp => ?_, ?_⟩
    · have hmode : t.mode = s.mode := by rw [hframe]; rfl
      have hregs : t.regs = s.regs := by rw [hframe]; rfl
      rw [State.setReg, State.setIn_get, State.mode_loadRegs, hmode, if_neg hp, ← hregs]
      exact loadRegs_take_get _ f.list j _ t p
    · rw [State.setReg_eq, State.loadRegs_eq, hframe]
      exact ⟨rfl, rfl, rfl, rfl, rfl⟩
  case store =>
    intro i f s hf hr hfeed hwf hal hab hwrite
    obtain ⟨bus, he⟩ := blockStore_of_aborting (s := s.begun) hfeed hal hab hwrite
    rw [exec_of_storeBlock hf hr, he, baseRegs_begun]
    exact ⟨_, bus, rfl, storeWordsUnless_listed hwf _ (fun b => s.env.aborting b.toNat .word .write s.isPriv) f.list
      (s.regView (if f.sb then .usr else s.mode) (s.pc + 12)) (f.start s)⟩

end Sys2Proof.Proofs
end

section
/-! PROOFS. The statement about SWP and SWPB. -/

namespace Sys2Proof.Proofs

open Sys2Proof Sys2Proof.Machine Sys2Proof.Claims

/-- What a swap reads at an aligned address goes to Rd as it is: a byte has zeros above (rule R321), a word is not rotated. -/
theorem extend_value_of_swap {byte : Bool} {a : Word} (h : (LoadKind.size (if byte then .byte else .word)).aligned a = true)
    (big : Bool) (m : Memory) :
    LoadKind.extend (if byte then .byte else .word) a (m.value big (LoadKind.size (if byte then .byte else .word)) a) =
      m.value big (LoadKind.size (if byte then .byte else .word)) a := by
  refine (extend_value_of_aligned h big m).trans ?_
  cases byte <;> rfl

/-- Settles O39: both accesses find storage, so the swap comes to its advance, and the address is its own aligned address. -/
theorem swapResult : Obligations.SwapResult := by
  unfold Obligations.SwapResult
  intro cond byte rn rd rm s i z a hr hroom hwf hal hread hwrite
  have hlen : s.len = 4 := len_of_arm (hr.1.trans (by cases byte <;> rfl))
  have hz : z = LoadKind.size (if byte then .byte else .word) := by cases byte <;> rfl
  rw [hz] at hal hread hwrite ⊢
  rw [← Size.align_of_aligned hal] at hread hwrite
  rw [exec_swap hr, swap_of_accessible (s := s.begun) (loadMisaligned_of_aligned hal) hread hwrite, State.reg_begun,
    Size.align_of_aligned hal, extend_value_of_swap hal, State.setReg_begun_regs, ← hlen]
  exact ⟨_, State.advance_of hroom, stored_store hwf _ _ _⟩

end Sys2Proof.Proofs
end

section
/-! PROOFS. What the coprocessor instructions execute once the gate has passed, and what they come to: a coprocessor that does not
answer, is busy, or accepts, and the debug communications channel. -/

namespace Sys2Proof.Proofs

open Sys2Proof Sys2Proof.Machine Sys2Proof.Claims

/-! ## The effect of a coprocessor instruction -/

/-- What a coprocessor instruction does after the gate: the five effects of 46_coprocessor.md, each with its fields; none for any other
instruction. -/
def copEffect (s : State) : Instr → Option Result
  | .cdp cond op1 crn crd n op2 crm => some (cdp (.cdp cond op1 crn crd n op2 crm) n op1 crn crd op2 crm s s.begun)
  | .ldc cond p u l w rn crd n off => some (ldc (.ldc cond p u l w rn crd n off) p u l w rn crd n off s s.begun)
  | .stc cond p u l w rn crd n off => some (stc (.stc cond p u l w rn crd n off) p u l w rn crd n off s s.begun)
  | .mcr cond op1 crn rd n op2 crm => some (mcr (.mcr cond op1 crn rd n op2 crm) n op1 crn rd op2 crm s s.begun)
  | .mrc cond op1 crn rd n op2 crm => some (mrc (.mrc cond op1 crn rd n op2 crm) n op1 crn rd op2 crm s s.begun)
  | _ => none

/-- The gate of a coprocessor instruction knows no restriction and no register that it reads, so whatever registers are named
the instruction is offered. -/
theorem exec_of_copEffect {i : Instr} {s : State} {e : Result} (he : copEffect s i = some e) (h : Offered i s) :
    exec i s = e := by
  obtain ⟨_, hm, hc⟩ := h
  cases i with
  | cdp | ldc | stc | mcr | mrc =>
    cases he
    simp only [exec, execCdp, execLdc, execStc, execMcr, execMrc]
    exact runArm_of _ hm hc rfl (hazard_nil s)
  | _ => cases he

/-- A coprocessor instruction that runs is offered. -/
theorem offered_of_runs {i : Instr} {e : Result} {reads : List Reg} {s : State} (he : copEffect s i = some e)
    (h : Runs i reads s) : Offered i s := by
  obtain ⟨hthumb, hm, _, hc, _⟩ := h
  cases i with
  | cdp | ldc | stc | mcr | mrc => exact ⟨hthumb, hm, hc⟩
  | _ => cases he

theorem exec_of_runs_copEffect {i : Instr} {e : Result} {reads : List Reg} {s : State} (he : copEffect s i = some e)
    (h : Runs i reads s) : exec i s = e := exec_of_copEffect he (offered_of_runs he h)

/-! ## The answers of the handshake -/

/-- What is offered to a coprocessor other than 14 is the handshake and what follows it. -/
theorem exec_eq_handshake {i : Instr} {o : CopOffer} {s : State} (ho : copForm s i = some o) (hn : o.number ≠ 14#4)
    (h : Offered i s) : ∃ present, exec i s = handshake i o s s.begun present := by
  cases i with
  | cdp | ldc | stc | mcr | mrc => cases ho; exact ⟨_, (exec_of_copEffect rfl h).trans (if_neg hn)⟩
  | _ => cases ho

section

variable {i : Instr} {o : CopOffer} {c : CopPort} {s0 s : State} (present : CopPort → CopRule → Result)

theorem handshake_of_no_responder (h : s.env.responder o = none) :
    handshake i o s0 s present = .next (s.takeException .und) := by
  simp only [handshake, h]

theorem handshake_of_busy (h : s.env.responder o = some c) (ha : c.answer o = .busy) :
    handshake i o s0 s present = .next { s0 with env := s0.env.withResponder o CopPort.waited, waiting := some i } := by
  simp only [handshake, h, ha]

theorem handshake_of_invalid (h : s.env.responder o = some c) (ha : c.answer o = .invalid) :
    handshake i o s0 s present = .refused .coprocessorProtocol := by
  simp only [handshake, h, ha]

end

/-! ## Register transfers with a coprocessor that accepts -/

/-- The end of MRC: the flags for r15, else the register, and the advance. -/
theorem deliver_of_room {rd : Reg} {v : Word} {s u : State} (h : SameView s u) (hroom : Room s) :
    deliver rd v u = .next
      (if rd = 15#4 then
        { u with
          cpsr := { u.cpsr with n := v.getLsbD 31, z := v.getLsbD 30, c := v.getLsbD 29, v := v.getLsbD 28 }
          pc := s.pc + s.len }
       else { u with regs := (s.setReg rd v).regs, pc := s.pc + s.len }) := by
  unfold deliver isPc
  by_cases hrd : rd = 15#4
  · have hview : SameView s
        { u with cpsr := { u.cpsr with n := v.getLsbD 31, z := v.getLsbD 30, c := v.getLsbD 29, v := v.getLsbD 28 } } :=
      ⟨h.regs, h.pc, h.m, h.t, h.inDebug⟩
    rw [if_pos (decide_eq_true hrd), if_pos hrd]
    exact hview.advance hroom
  · rw [if_neg (by rwa [decide_eq_true_iff]), if_neg hrd]
    exact h.setReg_advance rd v hroom

theorem sameView_requested (s : State) (o : CopOffer) (r : CopRule) (taken data : List Word) (aborted : Bool) :
    SameView s (s.begun.requested o r taken data aborted) := ⟨rfl, rfl, rfl, rfl, rfl⟩

/-- A well-formed MCR does not name r15. -/
theorem isPc_of_mcr {cond : Cond} {op1 : BitVec 3} {crn : BitVec 4} {rd : Reg} {n : BitVec 4} {op2 : BitVec 3} {crm : BitVec 4}
    (hv : (Instr.mcr cond op1 crn rd n op2 crm).violation = none) : isPc rd = false :=
  firstOf_eq_none (restriction_of_violation hv) (_, .mcrPc) (.head _)

theorem cdp_of_accepts {i : Instr} {n op1 crn crd : BitVec 4} {op2 : BitVec 3} {crm : BitVec 4} {o : CopOffer} {c : CopPort}
    {r : CopRule} {s : State} (ho : o = ⟨.cdp, n, op1, op2, crn, crd, crm, false, s.fetchPriv⟩) (hn : n ≠ 14#4)
    (ha : Accepts s o c r) :
    cdp i n op1 crn crd op2 crm s s.begun = (s.begun.requested o r [] [] false).advance := by
  subst ho
  rw [cdp]
  exact (if_neg hn).trans (handshake_of_accepts (s := s.begun) ha _)

section

variable {i : Instr} {n : BitVec 4} {op1 : BitVec 3} {crn : BitVec 4} {rd : Reg} {op2 : BitVec 3} {crm : BitVec 4} {o : CopOffer}
  {c : CopPort} {r : CopRule} {s : State}

theorem mcr_of_accepts (ho : o = registerOffer .mcr n op1 crn op2 crm s.fetchPriv) (hn : n ≠ 14#4) (ha : Accepts s o c r)
    (hpc : isPc rd = false) (hz : s.hazard [rd] = false) :
    mcr i n op1 crn rd op2 crm s s.begun = (s.begun.requested o r [s.reg rd] [s.reg rd] false).advance := by
  subst ho
  rw [mcr]
  refine (if_neg hn).trans ((handshake_of_accepts (s := s.begun) ha _).trans ?_)
  simp only [hpc, hz, Bool.false_eq_true, if_false, State.reg_begun]

theorem mrc_of_accepts (ho : o = registerOffer .mrc n op1 crn op2 crm s.fetchPriv) (hn : n ≠ 14#4) (ha : Accepts s o c r) :
    mrc i n op1 crn rd op2 crm s s.begun =
      deliver rd (c.source r.gives) (s.begun.requested o r [] [c.source r.gives] false) := by
  subst ho
  rw [mrc]
  exact (if_neg hn).trans (handshake_of_accepts (s := s.begun) ha _)

end

/-! ## Memory transfers with a coprocessor that accepts -/

section

variable {i : Instr} {p u l w : Bool} {rn : Reg} {crd n : BitVec 4} {off : BitVec 8} {o : CopOffer} {c : CopPort} {r : CopRule}
  {t : Transfer} {s : State}

/-- The words of a transfer from an aligned address are aligned. -/
theorem align_word_add_of_aligned {a : Word} (hal : Size.word.aligned a = true) (k : Nat) :
    Size.word.align (a + BitVec.ofNat 32 (4 * k)) = a + BitVec.ofNat 32 (4 * k) := by
  rw [Size.align_word_add, Size.align_of_aligned hal]

/-- The end of LDC and STC without an abort: after the accesses, which changed memory and the record alone, the coprocessor is told,
the base is written back, and the instruction is over. -/
theorem requested_writeBase_advance {taken data : List Word} {m : Memory} {bus : List BusAccess} (hroom : Room s) :
    ((({ s.begun with mem := m, bus := bus } : State).requested o r taken data false).writeBase t rn).advance = .next
      { s.begun with
        regs := (s.writeBase t rn).regs
        env := s.env.withResponder o (fun q => q.executed r taken false)
        cop := s.cop ++ [⟨o, data, false⟩]
        mem := m
        pc := s.pc + s.len
        bus := bus } := by
  rw [State.writeBase_congr (s := s) (by rfl) (by rfl)]
  exact State.advance_of hroom

/-- LDC of words that find memory. -/
theorem ldc_of_readable (ho : o = memoryOffer .ldc n crd l s.fetchPriv) (ht : t = copTransfer p u w (s.reg rn) off)
    (hn : n ≠ 14#4) (ha : Accepts s o c r) (hres : Restriction.coprocessorTransfer p w rn = none) (hz : s.hazard [rn] = false)
    (hroom : Room s) (hal : Size.word.aligned t.addr = true)
    (h : ∀ j < r.takesMore.length + 1, Readable s (t.addr + BitVec.ofNat 32 (4 * j)) .word s.isPriv) :
    let ds := (List.range (r.takesMore.length + 1)).map
      (fun j => s.mem.word s.env.params.bigend (t.addr + BitVec.ofNat 32 (4 * j)))
    ∃ bus, ldc i p u l w rn crd n off s s.begun = .next
      { s.begun with
        regs := (s.writeBase t rn).regs
        env := s.env.withResponder o (fun q => q.executed r ds false)
        cop := s.cop ++ [⟨o, ds, false⟩]
        pc := s.pc + s.len
        bus := bus } := by
  obtain ⟨bus, hburst⟩ := readBurst_of_readable (s := s.begun) (a := t.addr) (priv := s.isPriv) (k := r.takesMore.length + 1)
    (by simp only [align_word_add_of_aligned hal]; exact h)
  simp only [align_word_add_of_aligned hal] at hburst
  refine ⟨bus, (ldc_of_readBurst ho ht hn ha hres hz (loadMisaligned_of_aligned hal) hburst).trans ?_⟩
  exact requested_writeBase_advance (m := s.mem) hroom

/-- STC of words that find storage. -/
theorem stc_of_writable (ho : o = memoryOffer .stc n crd l s.fetchPriv) (ht : t = copTransfer p u w (s.reg rn) off)
    (hn : n ≠ 14#4) (ha : Accepts s o c r) (hres : Restriction.coprocessorTransfer p w rn = none) (hz : s.hazard [rn] = false)
    (hroom : Room s) (hal : Size.word.aligned t.addr = true)
    (h : ∀ j < (c.given r).length, Writable s (t.addr + BitVec.ofNat 32 (4 * j)) .word s.isPriv) :
    ∃ bus, stc i p u l w rn crd n off s s.begun = .next
      { s.begun with
        regs := (s.writeBase t rn).regs
        env := s.env.withResponder o (fun q => q.executed r [] false)
        cop := s.cop ++ [⟨o, c.given r, false⟩]
        mem := Memory.storeWords s.env.params.bigend (c.given r) t.addr s.mem
        pc := s.pc + s.len
        bus := bus } := by
  obtain ⟨bus, hburst⟩ := writeBurst_of_writable (s := s.begun) (a := t.addr) (priv := s.isPriv) (vs := c.given r)
    (by simp only [align_word_add_of_aligned hal]; exact h)
  rw [Size.align_of_aligned hal] at hburst
  refine ⟨bus, (stc_of_writeBurst ho ht hn ha hres hz (busMisaligned_of_aligned hal) hburst).trans ?_⟩
  exact requested_writeBase_advance hroom

end

/-! ## Coprocessor 14 -/

/-- The control register of the channel: the version, W and R; the bits between are free. -/
theorem dccControl_bits (s : State) :
    s.dccControl.extractLsb' 28 4 = 0b0001#4 ∧ s.dccControl.getLsbD 1 = s.dcc.w ∧ s.dccControl.getLsbD 0 = s.dcc.r := by
  unfold State.dccControl
  refine ⟨?version, ?w, ?r⟩
  case version =>
    rw [BitVec.extractLsb'_append_eq_of_le (by decide), BitVec.extractLsb'_append_eq_of_le (by decide)]
    exact BitVec.extractLsb'_append_eq_left
  case w =>
    simp only [BitVec.getLsbD_append, BitVec.getLsbD_ofBool]
    rfl
  case r =>
    simp only [BitVec.getLsbD_append, BitVec.getLsbD_ofBool]
    rfl

/-- The data write register takes the word of Rd, and W is set. -/
theorem debugWrite_dataWrite {rd : Reg} {s : State} (hpc : isPc rd = false) (hz : s.hazard [rd] = false) :
    debugWrite 0 1 rd 0 0 s s.begun =
      State.advance { s.begun with dcc := { s.dcc with dataWrite := s.reg rd, w := true } } := by
  rw [debugWrite, if_pos ⟨rfl, rfl, rfl, rfl⟩, hpc, hz]
  rfl

/-- MRC from coprocessor 14 reads CRn 0 and 1 alone, with the other fields 0. -/
theorem debugRead_refused {op1 : BitVec 3} {crn : BitVec 4} {op2 : BitVec 3} {crm : BitVec 4} (rd : Reg) (s : State)
    (h : op1 = 0 → op2 = 0 → crm = 0 → 2 ≤ crn.toNat) : debugRead op1 crn rd op2 crm s = .refused .debugCoprocessor := by
  have hother : ∀ k : BitVec 4, k.toNat < 2 → ¬ (op1 = 0 ∧ op2 = 0 ∧ crm = 0 ∧ crn = k) := by
    rintro k hk ⟨h1, h2, h3, rfl⟩
    exact absurd (h h1 h2 h3) (Nat.not_le.mpr hk)
  rw [debugRead, if_neg (hother 0 (by decide)), if_neg (hother 1 (by decide))]

/-- MCR to coprocessor 14 writes CRn 1 alone, with the other fields 0. -/
theorem debugWrite_refused {op1 : BitVec 3} {crn : BitVec 4} {op2 : BitVec 3} {crm : BitVec 4} (rd : Reg) (s0 s : State)
    (h : op1 = 0 → op2 = 0 → crm = 0 → crn ≠ 1) : debugWrite op1 crn rd op2 crm s0 s = .refused .debugCoprocessor := by
  have hother : ¬ (op1 = 0 ∧ op2 = 0 ∧ crm = 0 ∧ crn = 1) := fun ⟨h1, h2, h3, h4⟩ => h h1 h2 h3 h4
  rw [debugWrite, if_neg hother]

end Sys2Proof.Proofs
end

section
/-! PROOFS. The statements about the coprocessor instructions. -/

namespace Sys2Proof.Proofs

open Sys2Proof Sys2Proof.Machine Sys2Proof.Claims

/-- Settles O45: each answer of the handshake, whatever would follow it. -/
theorem coprocessorAbsentOrBusy : Obligations.CoprocessorAbsentOrBusy := by
  unfold Obligations.CoprocessorAbsentOrBusy
  intro i o s ho hn hoff
  obtain ⟨present, he⟩ := exec_eq_handshake ho hn hoff
  rw [he]
  exact ⟨handshake_of_no_responder (s := s.begun) present,
    fun c hc => ⟨handshake_of_busy (s := s.begun) present hc, handshake_of_invalid (s := s.begun) present hc⟩⟩

/-- Settles O46: the accepted instruction is the request, for MRC the delivery, and the advance. -/
theorem coprocessorRegisterTransferResult : Obligations.CoprocessorRegisterTransferResult := by
  unfold Obligations.CoprocessorRegisterTransferResult
  intro i o c r s ho hn ha hroom asked
  refine ⟨?cdp, ?mcr, ?mrc⟩
  case cdp =>
    rintro cond op1 crn crd n op2 crm rfl hr
    cases ho
    rw [exec_of_runs_copEffect rfl hr, cdp_of_accepts rfl hn ha, (sameView_requested s ..).advance hroom, len_of_arm hr.1]
    rfl
  case mcr =>
    rintro cond op1 crn rd n op2 crm rfl hr
    have ⟨_, _, hv, _, hz⟩ := hr
    cases ho
    rw [exec_of_runs_copEffect rfl hr, mcr_of_accepts rfl hn ha (isPc_of_mcr hv) hz, (sameView_requested s ..).advance hroom,
      len_of_arm hr.1]
    rfl
  case mrc =>
    rintro cond op1 crn rd n op2 crm rfl hr v
    cases ho
    rw [exec_of_runs_copEffect rfl hr, mrc_of_accepts rfl hn ha, deliver_of_room (sameView_requested s ..) hroom,
      len_of_arm hr.1]
    rfl

/-- Settles O47: the burst goes through, and the words of an STC read back. -/
theorem coprocessorMemoryTransferResult : Obligations.CoprocessorMemoryTransferResult := by
  unfold Obligations.CoprocessorMemoryTransferResult
  intro cond p u l w rn crd n off o c r s hn ha hroom t at' regs hal
  have hregs : (s.writeBase t rn).regs = regs := writeBase_copTransfer_regs s p u w rn (s.reg rn) off
  refine ⟨?ldc, ?stc⟩
  case ldc =>
    intro i k ds ho hr hread
    have ⟨hthumb, _, hv, _, hz⟩ := hr
    cases ho
    obtain ⟨bus, he⟩ := ldc_of_readable (i := i) (t := t) rfl rfl hn ha (restriction_of_violation hv) hz hroom hal hread
    rw [hregs, len_of_arm hthumb] at he
    exact ⟨bus, (exec_ldc hr).trans he⟩
  case stc =>
    intro i ws ho hr hwrite hwf hlen
    have ⟨hthumb, _, hv, _, hz⟩ := hr
    cases ho
    obtain ⟨bus, he⟩ := stc_of_writable (i := i) (t := t) rfl rfl hn ha (restriction_of_violation hv) hz hroom hal hwrite
    rw [hregs, len_of_arm hthumb] at he
    refine ⟨bus, _, (exec_stc hr).trans he, fun j hj => ?_, fun b => Memory.byte_storeWords_other hwf _ ws t.addr b⟩
    rw [← List.getElem_eq_getD (h := hj)]
    exact Memory.word_storeWords hwf _ ws t.addr (by omega) hj

/-- Settles O48: the two registers that MRC reads and the one that MCR writes. -/
theorem communicationsChannelResult : Obligations.CommunicationsChannelResult := by
  unfold Obligations.CommunicationsChannelResult
  intro cond rd s hroom given
  have hgiven : ∀ (u : State) (v : Word), SameView s u → u.cpsr = s.cpsr → s.cpsr.t = false →
      deliver rd v u = .next (given u v) := by
    intro u v h hcpsr ht
    rw [deliver_of_room h hroom, len_of_arm ht]
    by_cases hrd : rd = 15#4
    · simp only [given, hrd, if_true, hcpsr, h.regs]
    · simp only [given, hrd, if_false, hcpsr]
  refine ⟨fun hr => ?control, fun hr => ?read, fun hr => ?write⟩
  case control =>
    refine ⟨s.begun.dccControl, ?_, dccControl_bits s.begun⟩
    exact (exec_of_runs_copEffect rfl hr).trans (hgiven s.begun.drawn _ ⟨rfl, rfl, rfl, rfl, rfl⟩ rfl hr.1)
  case read =>
    refine (exec_of_runs_copEffect rfl hr).trans ?_
    exact hgiven { s.begun with dcc := { s.dcc with r := false } } _ ⟨rfl, rfl, rfl, rfl, rfl⟩ rfl hr.1
  case write =>
    have ⟨hthumb, _, hv, _, hz⟩ := hr
    have hview : SameView s { s.begun with dcc := { s.dcc with dataWrite := s.reg rd, w := true } } :=
      ⟨rfl, rfl, rfl, rfl, rfl⟩
    refine (exec_of_runs_copEffect rfl hr).trans ((debugWrite_dataWrite (isPc_of_mcr hv) hz).trans ?_)
    rw [← len_of_arm hthumb]
    exact hview.advance hroom

/-- Settles O49: CDP, LDC and STC are refused before the handshake, MRC and MCR where their fields name no register of the channel. -/
theorem otherCp14InstructionsAreRefused : Obligations.OtherCp14InstructionsAreRefused := by
  unfold Obligations.OtherCp14InstructionsAreRefused
  intro i o s ho hn hoff hmrc hmcr
  cases i with
  | cdp | ldc | stc => cases ho; exact (exec_of_copEffect rfl hoff).trans (if_pos hn)
  | mcr cond op1 crn rd n op2 crm =>
    cases ho
    refine (exec_of_copEffect rfl hoff).trans ((if_pos hn).trans (debugWrite_refused rd s s.begun ?_))
    rintro rfl rfl rfl
    exact hmcr cond crn rd (by rw [show n = 14#4 from hn]; rfl)
  | mrc cond op1 crn rd n op2 crm =>
    cases ho
    refine (exec_of_copEffect rfl hoff).trans ((if_pos hn).trans (debugRead_refused rd s.begun ?_))
    rintro rfl rfl rfl
    exact hmrc cond crn rd (by rw [show n = 14#4 from hn]; rfl)
  | _ => cases ho

end Sys2Proof.Proofs
end

section
/-! PROOFS. The software interrupt and the undefined instructions. -/

namespace Sys2Proof.Proofs

open Sys2Proof Sys2Proof.Machine Sys2Proof.Claims

/-- Settles O51: none of the four reads a register or has a restriction, so the gate lets each one enter its exception. -/
theorem trapInstructionsTakeTheirExceptions : Obligations.TrapInstructionsTakeTheirExceptions := by
  unfold Obligations.TrapInstructionsTakeTheirExceptions
  rintro i e s hr (⟨⟨cond, imm, rfl⟩ | ⟨imm, rfl⟩, rfl⟩ | ⟨⟨cond, hi, lo, rfl⟩ | ⟨imm, rfl⟩, rfl⟩)
  case inl.inl =>
    rw [exec, execSwi]
    exact runArm_of_runs hr rfl rfl
  case inl.inr =>
    rw [exec, execTSwi, runThumb]
    exact runArm_of_runs hr rfl rfl
  case inr.inl =>
    rw [exec, execUndefined]
    exact runArm_of_runs hr rfl rfl
  case inr.inr =>
    rw [exec, execTUndefined, runThumb]
    exact runArm_of_runs hr rfl rfl

end Sys2Proof.Proofs
end

section
/-! PROOFS. The Thumb data processing instructions, with flags and without, and the Thumb conditional branches. -/

namespace Sys2Proof.Proofs

open Sys2Proof Sys2Proof.Machine Sys2Proof.Claims

/-! ## With flags -/

/-- A register of Thumb state's three-bit fields is not r15. -/
theorem lreg_ne_pc : ∀ r : LReg, r.reg ≠ 15#4 := by decide

/-- NEG is the reverse subtraction from 0 (rule R389): it leaves what the subtraction of the register from 0 leaves. -/
theorem dpNext_neg (rd : Reg) (v : Word) (c : Bool) (s : State) :
    dpNext .rsb true rd v ⟨0, c⟩ s = dpNext .sub true rd 0 ⟨v, c⟩ s := rfl

/-- Settles O24: past the gate each form is the data processing operation with S of its table, NEG that of its two operands exchanged. -/
theorem thumbAluResult : Obligations.ThumbAluResult := by
  unfold Obligations.ThumbAluResult
  intro i f s h hr hroom
  obtain ⟨_, hm, hv, hc, hz⟩ := hr
  have hres := restriction_of_violation hv
  cases i with
  | tLslImm | tLsrImm | tAsrImm | tAddReg | tSubReg | tAddImm3 | tSubImm3 | tMovImm | tCmpImm | tAddImm8 | tSubImm8 | tAnd |
  tEor | tLslReg | tLsrReg | tAsrReg | tAdc | tSbc | tRorReg | tTst | tCmpReg | tCmn | tOrr | tBic | tMvn =>
    cases h
    simp only [exec, execTLslImm, execTLsrImm, execTAsrImm, execTAddReg, execTSubReg, execTAddImm3, execTSubImm3,
      execTMovImm, execTCmpImm, execTAddImm8, execTSubImm8, execTAnd, execTEor, execTLslReg, execTLsrReg, execTAsrReg,
      execTAdc, execTSbc, execTRorReg, execTTst, execTCmpReg, execTCmn, execTOrr, execTBic, execTMvn, thumbAlu, runThumb]
    exact (runArm_of _ hm hc hres hz).trans (dpFinish_of_room (fun _ => lreg_ne_pc _) hroom)
  | tNeg rd rs =>
    cases h
    rw [exec, execTNeg, thumbAlu, runThumb, ← dpNext_neg]
    exact (runArm_of _ hm hc hres hz).trans (dpFinish_of_room (fun _ => lreg_ne_pc _) hroom)
  | tCmpHi rd rs =>
    cases h
    rw [exec, execTCmpHi, runThumb]
    exact (runArm_of _ hm hc hres hz).trans (dpFinish_of_room nofun hroom)
  | _ => cases h

/-! ## Without flags -/

/-- The end of an instruction that writes a register other than r15 and goes on, in Thumb state. -/
theorem setReg_advance_of_thumb {s : State} (ht : s.cpsr.t = true) (hroom : Room s) (rd : Reg) (v : Word) :
    (s.begun.setReg rd v).advance = .next { s.begun with regs := (s.setReg rd v).regs, pc := s.pc + 2 } := by
  have hview : SameView s s.begun := ⟨rfl, rfl, rfl, rfl, rfl⟩
  rw [hview.setReg_advance rd v hroom, len_of_thumb ht]

theorem writeAndAdvance_of_thumb {s : State} (ht : s.cpsr.t = true) (hroom : Room s) {rd : Reg} (hrd : rd ≠ 15#4) (v : Word) :
    s.begun.writeAndAdvance rd v = .next { s.begun with regs := (s.setReg rd v).regs, pc := s.pc + 2 } := by
  rw [State.writeAndAdvance, isPc_of_ne hrd]
  exact setReg_advance_of_thumb ht hroom rd v

/-- A write of r15 is a branch. -/
theorem writeAndAdvance_pc_of_thumb {s : State} (ht : s.cpsr.t = true) (v : Word) :
    s.begun.writeAndAdvance 15#4 v =
      .next { s.begun with pc := v &&& 0xFFFFFFFE#32, fetchPriv := s.isPriv, nextFetchPriv := s.isPriv } :=
  congrArg _ (begun_branchTo_of_thumb ht v)

theorem reg_pc (s : State) : s.reg 15#4 = s.pcRead := by
  rw [State.reg, State.regView, phys_pc]

/-- Settles O25: past the gate each form is one register write, to r15 a branch in Thumb state. -/
theorem thumbRegisterResult : Obligations.ThumbRegisterResult := by
  unfold Obligations.ThumbRegisterResult
  intro s put jump
  refine ⟨fun rd rs hr hrd hroom => ?addHi, fun rs hr => ?addHiPc, fun rd rs hr hrd hroom => ?movHi, fun rs hr => ?movHiPc,
    fun rd off hr hroom => ?addPc, fun rd off hr hroom => ?addSp, fun off hr hroom => ?incSp, fun off hr hroom => ?decSp⟩
  case addHi =>
    rw [exec, execTAddHi, runThumb]
    exact (runArm_of_runs hr rfl rfl).trans (writeAndAdvance_of_thumb hr.1 hroom hrd _)
  case addHiPc =>
    rw [exec, execTAddHi, runThumb]
    refine (runArm_of_runs hr rfl rfl).trans ?_
    rw [writeAndAdvance_pc_of_thumb hr.1, State.reg_begun, State.reg_begun, reg_pc, pcRead_of_thumb hr.1]
  case movHi =>
    rw [exec, execTMovHi, runThumb]
    exact (runArm_of_runs hr rfl rfl).trans (writeAndAdvance_of_thumb hr.1 hroom hrd _)
  case movHiPc =>
    rw [exec, execTMovHi, runThumb]
    exact (runArm_of_runs hr rfl rfl).trans (writeAndAdvance_pc_of_thumb hr.1 _)
  case addPc =>
    rw [exec, execTAddPc, runThumb]
    refine (runArm_of_runs hr rfl rfl).trans ?_
    rw [State.pcRead_begun, pcRead_of_thumb hr.1]
    exact setReg_advance_of_thumb hr.1 hroom rd.reg _
  case addSp =>
    rw [exec, execTAddSp, runThumb]
    exact (runArm_of_runs hr rfl rfl).trans (setReg_advance_of_thumb hr.1 hroom rd.reg _)
  case incSp =>
    rw [exec, execTIncSp, runThumb]
    exact (runArm_of_runs hr rfl rfl).trans (setReg_advance_of_thumb hr.1 hroom 13#4 _)
  case decSp =>
    rw [exec, execTDecSp, runThumb]
    exact (runArm_of_runs hr rfl rfl).trans (setReg_advance_of_thumb hr.1 hroom 13#4 _)

/-! ## Conditional branches -/

/-- The fourteen constructors are one effect with their condition. -/
theorem exec_of_thumbCond {i : Instr} {c : Cond} {off : BitVec 8} (h : thumbCond i = some (c, off)) (s : State) :
    exec i s = thumbBranch c off s := by
  cases i with
  | tBeq | tBne | tBcs | tBcc | tBmi | tBpl | tBvs | tBvc | tBhi | tBls | tBge | tBlt | tBgt | tBle => cases h; rfl
  | _ => cases h

/-- Settles O33: the gate tests no condition, the effect does. -/
theorem thumbConditionalBranchResult : Obligations.ThumbConditionalBranchResult := by
  unfold Obligations.ThumbConditionalBranchResult
  intro i c off s h ht hm hroom
  rw [exec_of_thumbCond h, thumbBranch, runThumb]
  refine (runArm_of _ hm rfl rfl (hazard_nil s)).trans ?_
  rw [State.begun_cpsr]
  cases hc : conditionPassed s.cpsr c with
  | true =>
    rw [if_pos rfl, if_pos rfl, begun_branchTo_of_thumb ht, State.pcRead_begun, pcRead_of_thumb ht]
    rfl
  | false =>
    rw [if_neg Bool.false_ne_true, if_neg Bool.false_ne_true]
    have hroom' : Room s := hroom.resolve_left (by rw [hc]; exact Bool.false_ne_true)
    rw [State.advance_of (s := s.begun) hroom', State.len_begun, len_of_thumb ht]
    rfl

end Sys2Proof.Proofs
end

section
/-! PROOFS. Exceptions: what an entry leaves, the way back, and the boundary at which interrupts and Prefetch Aborts are taken. -/

namespace Sys2Proof.Proofs

open Sys2Proof Sys2Proof.Machine Sys2Proof.Claims

/-! ## The entry -/

theorem spsr_get_set_same (f : SpsrFile) (e : Exc) (p : Psr) : (f.set e.mode p).get e.mode = some p := by
  cases e <;> rfl

theorem spsr_get_set_other (f : SpsrFile) {m n : Mode} (h : n ≠ m) (p : Psr) : (f.set m p).get n = f.get n := by
  cases m <;> cases n <;> first | rfl | exact absurd rfl h

/-- The registers after an entry: the link in r14 of the new mode, the others as before. -/
theorem takeException_get (s : State) (e : Exc) (p : PhysReg) :
    (s.takeException e).regs.get p = if phys e.mode 14#4 = some p then s.link e else s.regs.get p :=
  s.setIn_get e.mode 14#4 (s.link e) p

theorem takeException_link (s : State) (e : Exc) (pcv : Word) :
    (s.takeException e).regView e.mode pcv 14#4 = s.link e := by
  obtain ⟨p, hp⟩ := Option.isSome_iff_exists.mp (phys_isSome e.mode (show 14#4 ≠ 15#4 by decide))
  rw [State.regView, hp]
  exact (takeException_get s e p).trans (if_pos hp)

/-- The mode of an exception has privilege, so what is fetched at its vector is fetched with privilege. -/
theorem takeException_frame (s : State) (e : Exc) :
    s.takeException e =
      { s with
        regs := (s.takeException e).regs, spsr := (s.takeException e).spsr, cpsr := (s.takeException e).cpsr
        pc := (s.takeException e).pc, fetchPriv := true, nextFetchPriv := true, usrLdm := false, waiting := none
        dbg := { s.dbg with entered := true } } := by
  cases e <;> rfl

/-- Settles O52. -/
theorem exceptionEntry : Obligations.ExceptionEntry := by
  unfold Obligations.ExceptionEntry
  intro e s t m l link v
  have hm : m = e.mode := by cases e <;> rfl
  have hlink : link = s.link e := by cases e <;> rfl
  have hv : v = e.vector := by cases e <;> rfl
  have hf : (s.cpsr.f || decide (e = .fiq)) = if e = .fiq then true else s.cpsr.f := by
    by_cases h : e = .fiq <;> simp [h]
  obtain ⟨_, hpc, _, _⟩ := takeException_entry s e
  rw [hm, hlink, hv, ← hf]
  refine ⟨takeException_link s e 0, fun p hp => (takeException_get s e p).trans (if_neg hp), spsr_get_set_same s.spsr e s.cpsr,
    fun m' hm' => spsr_get_set_other s.spsr hm' s.cpsr, rfl, hpc, takeException_frame s e⟩

/-! ## The return -/

/-- Clearing bits that are clear. -/
theorem and_not_of_and_eq_zero {v k : Word} (h : v &&& k = 0#32) : v &&& ~~~k = v := by
  refine BitVec.eq_of_getLsbD_eq fun j hj => ?_
  have hbit := congrArg (BitVec.getLsbD · j) h
  simp only [BitVec.getLsbD_and, BitVec.getLsbD_zero] at hbit
  rw [BitVec.getLsbD_and, BitVec.getLsbD_not, decide_eq_true hj, Bool.true_and]
  cases hv : v.getLsbD j with
  | false => rfl
  | true => rw [hv, Bool.true_and] at hbit; rw [hbit]; rfl

/-- A branch to a target that is aligned for the state goes there. -/
theorem branchTo_pc_of_aligned {s : State} {v : Word} (h : State.pcAligned { s with pc := v }) : (s.branchTo v).pc = v := by
  rw [State.branchTo_pc]
  unfold State.pcAligned at h
  split at h
  · next ht => exact (if_pos ht).trans (and_not_of_and_eq_zero h)
  · next ht => exact (if_neg ht).trans (and_not_of_and_eq_zero h)

/-- The next instruction is aligned where the present one is, also where the address wraps. -/
theorem pcAligned_next {s : State} (h : s.pcAligned) : State.pcAligned { s with pc := s.pc + s.len } := by
  rw [State.pcAligned_iff] at h ⊢
  show (s.pc + s.len).toNat % s.len.toNat = 0
  rw [BitVec.toNat_add]
  rcases s.len_cases with e | e <;> rw [e] at h ⊢ <;> simp only [BitVec.reduceToNat] at h ⊢ <;> omega

theorem ofBits_exc_mode (e : Exc) : Mode.ofBits e.mode.bits = some e.mode := by
  cases e <;> rfl

theorem mode_takeException (s : State) (e : Exc) : (s.takeException e).mode = e.mode := by
  rw [State.mode, State.takeException_cpsr, ofBits_exc_mode]
  rfl

theorem reg_link (s : State) (e : Exc) : (s.takeException e).reg 14#4 = s.link e := by
  rw [State.reg, mode_takeException]
  exact takeException_link s e _

/-- A well-formed ARM instruction under the condition AL runs at the vector. -/
theorem runs_at_vector {o : Operand2} {op : DpOp} {sf : Bool} {rn rd : Reg}
    (hv : (o.instr op .al sf rn rd).violation = none) (s : State) (e : Exc) :
    Runs (o.instr op .al sf rn rd) (o.reads rn) (s.takeException e) := by
  have hc : (o.instr op .al sf rn rd).cond? = some .al := by
    cases o with
    | imm => exact cond_mkDpImm ..
    | shi => exact cond_mkDpShi ..
    | shr => exact cond_mkDpShr ..
  have hm : Mode.ofBits (s.takeException e).cpsr.m = some e.mode := ofBits_exc_mode e
  exact ⟨(isThumb_operand2 ..).symm, by rw [hm]; exact Option.some_ne_none _, hv, by rw [hc]; rfl, rfl⟩

/-- A data processing instruction with S to r15 at the vector returns to its value, where that is aligned, with the CPSR from before
the exception: the SPSR of the exception's mode holds it. -/
theorem returns_to_value {o : Operand2} {op : DpOp} {rn : Reg} {e : Exc} {s : State} {v : Word} (ht : isTest op = false)
    (hwf : (o.instr op .al true rn 15#4).violation = none)
    (hv : dpValue op (o.first (s.takeException e) rn) (o.second (s.takeException e)).value s.cpsr.c = v)
    (hal : State.pcAligned { s with pc := v }) :
    ∃ t, exec (o.instr op .al true rn 15#4) (s.takeException e) = .next t ∧ t.pc = v ∧ t.cpsr = s.cpsr ∧ t.mem = s.mem ∧
      ∀ p, phys e.mode 14#4 ≠ some p → t.regs.get p = s.regs.get p := by
  have hspsr : (s.takeException e).spsr.get (s.takeException e).mode = some s.cpsr := by
    rw [mode_takeException]
    exact spsr_get_set_same s.spsr e s.cpsr
  have hexec := (dataProcessingToPc o op .al rn (s.takeException e) ht).2 (runs_at_vector hwf s e)
  rw [hspsr] at hexec
  refine ⟨_, hexec, ?_, rfl, rfl, fun p hp => (takeException_get s e p).trans (if_neg hp)⟩
  show (if s.cpsr.t then _ else _) = v
  rw [show (s.takeException e).cpsr.c = s.cpsr.c from rfl, hv]
  exact branchTo_pc_of_aligned hal

/-- Settles O53: each return subtracts from the link what the entry added to the address to return to. -/
theorem exceptionReturn : Obligations.ExceptionReturn := by
  unfold Obligations.ExceptionReturn
  intro e s hal _
  cases e with
  | swi | und =>
    refine ⟨rfl, returns_to_value (o := .shi 0#5 .lsl 14#4) (op := .mov) (rn := 0#4) rfl rfl ?_ (pcAligned_next hal)⟩
    show (shiftByImmediate _ .lsl (State.reg _ 14#4) 0).value = s.pc + s.len
    rw [reg_link]
    rfl
  | pabt | irq | fiq =>
    refine ⟨rfl, returns_to_value (o := .imm 0#4 4#8) (op := .sub) (rn := 14#4) rfl rfl ?_ hal⟩
    show State.reg _ 14#4 - 4#32 = s.pc
    rw [reg_link]
    exact BitVec.add_sub_cancel s.pc 4#32
  | dabt =>
    refine ⟨rfl, returns_to_value (o := .imm 0#4 8#8) (op := .sub) (rn := 14#4) rfl rfl ?_ hal⟩
    show State.reg _ 14#4 - 8#32 = s.pc
    rw [reg_link]
    exact BitVec.add_sub_cancel s.pc 8#32

/-! ## Interrupts -/

/-- Outside debug state and in a legal mode the boundary begins with the interrupts. -/
theorem reach_of_fiqTaken {s : State} (hd : s.dbg.inDebug = false) (hm : Mode.ofBits s.cpsr.m ≠ none) (hf : s.fiqTaken = true) :
    s.reach = .stops (.next (s.takeException .fiq)) := by
  rw [State.reach, hd, if_neg Bool.false_ne_true, if_neg hm, if_pos hf]

theorem reach_of_irqTaken {s : State} (hd : s.dbg.inDebug = false) (hm : Mode.ofBits s.cpsr.m ≠ none) (hf : s.fiqTaken = false)
    (hq : s.irqTaken = true) : s.reach = .stops (.next (s.takeException .irq)) := by
  rw [State.reach, hd, if_neg Bool.false_ne_true, if_neg hm, hf, if_neg Bool.false_ne_true, if_pos hq]

/-- A boundary that stops is the whole step. -/
theorem step_of_stops {s : State} {r : Result} (hs : s.script = []) (h : s.fresh.reach = .stops r) : step s = r := by
  rw [step_of_empty_script hs, State.coreStep, h]

/-- Settles O54. -/
theorem interruptsAtTheBoundary : Obligations.InterruptsAtTheBoundary := by
  unfold Obligations.InterruptsAtTheBoundary
  intro s hs hd hm hi u
  refine ⟨fun hpin hf => ?_, fun hno hpin hq => ?_⟩
  · have htaken : s.fresh.fiqTaken = true := by
      show (!s.env.pins.nFiq && !s.cpsr.f && s.ifen) = true
      rw [hpin, hf, hi]
      rfl
    exact step_of_stops hs (reach_of_fiqTaken hd hm htaken)
  · have hnot : s.fresh.fiqTaken = false := by
      show (!s.env.pins.nFiq && !s.cpsr.f && s.ifen) = false
      rcases hno with h | h <;> rw [h] <;> simp
    have htaken : s.fresh.irqTaken = true := by
      show (!s.env.pins.nIrq && !s.cpsr.i && s.ifen) = true
      rw [hpin, hq, hi]
      rfl
    exact step_of_stops hs (reach_of_irqTaken hd hm hnot htaken)

/-! ## Prefetch Aborts -/

/-- A fetch that aborts draws a free value for what is on the data bus, and leaves its record. -/
theorem fetch_of_aborting {s : State} (h : s.env.aborting s.pc.toNat s.fetchSize .fetch s.fetchPriv = true) :
    s.fetch = .abort (s.drawn.logged (s.access s.pc s.fetchSize .fetch s.fetchPriv false s.freeWord true false)) :=
  if_pos h

/-- Where the bits on the bus do not count, the abort is taken. -/
theorem prefetchAbort_of_independent {s : State} (h : s.env.params.pabtCondFromBus = false) :
    s.prefetchAbort = .next (s.takeException .pabt) := by
  simp [State.prefetchAbort, h]

/-- Settles O55: the debug logic being disabled, the fetch is all that comes before the exception. -/
theorem prefetchAbort : Obligations.PrefetchAbort := by
  unfold Obligations.PrefetchAbort
  rintro s ⟨hb, hw⟩ hd hp ha
  refine ⟨s.access s.pc s.fetchSize .fetch s.fetchPriv false s.freeWord true false,
    step_of_stops hb.1 (((reach_of_atBoundary (s := s.fresh) hb hd).2 hw).trans ?_)⟩
  rw [State.fetchAndDecode, fetch_of_aborting (by exact ha)]
  dsimp only
  rw [observeAll_of_disabled _ (by exact hd), prefetchAbort_of_independent (by exact hp)]
  rfl

end Sys2Proof.Proofs
end

section
/-! PROOFS. The core under the debug logic: the comparison at a boundary, breakpoints, the watchpoint units, and DBGEN LOW. -/

namespace Sys2Proof.Proofs

open Sys2Proof Sys2Proof.Machine Sys2Proof.Claims

/-! ## The boundary -/

/-- Where no interrupt and no debug entry is taken, the boundary fetches. -/
theorem reach_of_no_request {s : State} (h : AtInstruction s) (hreq : (s.env.params.dbgen && (s.dbg.watchHit || s.dbgrqi)) = false) :
    s.reach = State.fetchAndDecode { s with dbg := { s.dbg with entered := false } } := by
  obtain ⟨⟨_, hin, hm, hfiq, hirq⟩, hw⟩ := h
  have hf : s.fiqTaken = false := by rcases hfiq with h | h | h <;> simp [State.fiqTaken, h]
  have hq : s.irqTaken = false := by rcases hirq with h | h | h <;> simp [State.irqTaken, h]
  rw [State.reach, hin, if_neg Bool.false_ne_true, if_neg hm, hf, if_neg Bool.false_ne_true, hq, if_neg Bool.false_ne_true,
    hreq, if_neg Bool.false_ne_true]
  dsimp only
  rw [hw]

/-- At an instruction with nothing pending the step goes on with the fetch, whatever the debug logic. -/
theorem fresh_reach_of_atInstruction {s : State} (h : AtInstruction s) (hw : s.dbg.watchHit = false) (hr : s.dbgrqi = false) :
    s.fresh.reach = State.fetchAndDecode { s.fresh with dbg := { s.dbg with entered := false } } := by
  refine reach_of_no_request (s := s.fresh) h ?_
  show (s.env.params.dbgen && (s.dbg.watchHit || s.dbgrqi)) = false
  rw [hw, hr]
  exact Bool.and_false _

/-- The fetch of a step leaves its own record alone. -/
theorem fetch_eq_fetched {s : State} (hf : Fetchable s) :
    State.fetch { s.fresh with dbg := { s.dbg with entered := false } } =
      .ok (s.mem.value s.env.params.bigend s.fetchSize s.pc) (fetched s) :=
  fetch_of_fetchable (s := { s.fresh with dbg := { s.dbg with entered := false } }) hf

/-- Settles O5: the comparison of the fetch comes between the fetch and the instruction, which then runs as any instruction does. -/
theorem stepRunsUnderTheDebugLogic : Obligations.StepRunsUnderTheDebugLogic := by
  unfold Obligations.StepRunsUnderTheDebugLogic
  intro s t i ha hw hr hf hdec hobs
  have hreach : s.fresh.reach = .executes i t := by
    rw [fresh_reach_of_atInstruction ha hw hr, State.fetchAndDecode, fetch_eq_fetched hf]
    dsimp only
    rw [hobs, if_neg Bool.false_ne_true, State.fresh_cpsr, hdec]
  rw [step_of_empty_script ha.1.1, State.coreStep, hreach]
  dsimp only
  unfold State.runInstruction
  cases exec i t <;> rfl

/-- Settles O58: the comparison changes the debug hardware alone, and debug state is entered three slots on. -/
theorem breakpointEntersDebugState : Obligations.BreakpointEntersDebugState := by
  unfold Obligations.BreakpointEntersDebugState
  intro s t ha hw hr hf hobs
  have hreach : s.fresh.reach = .stops (.next (t.enterDebug 3 (some false))) := by
    rw [fresh_reach_of_atInstruction ha hw hr, State.fetchAndDecode, fetch_eq_fetched hf]
    dsimp only
    rw [hobs, if_pos rfl]
  have hframe := State.observeAll_frame (fetched s).bus (fetched s)
  rw [hobs] at hframe
  dsimp only at hframe
  refine ⟨t.enterDebug 3 (some false), ?_, rfl, rfl, ?_, ?_, ?_, ?_, ?_, ?_⟩
  · rw [step_of_empty_script ha.1.1, State.coreStep, hreach]
  all_goals rw [hframe]; rfl

/-! ## The watchpoint units -/

/-- Two vectors agree under a mask where each bit is disregarded or equal. -/
theorem agree_iff {n : Nat} (value input mask : BitVec n) :
    agree value input mask = true ↔ ∀ k < n, mask.getLsbD k = true ∨ value.getLsbD k = input.getLsbD k := by
  have hbit : ∀ k < n, (((value ^^^ input) &&& ~~~mask).getLsbD k = false ↔
      mask.getLsbD k = true ∨ value.getLsbD k = input.getLsbD k) := by
    intro k hk
    rw [BitVec.getLsbD_and, BitVec.getLsbD_xor, BitVec.getLsbD_not, decide_eq_true hk]
    cases value.getLsbD k <;> cases input.getLsbD k <;> cases mask.getLsbD k <;> decide
  rw [agree, decide_eq_true_iff]
  refine ⟨fun h k hk => (hbit k hk).mp ?_, fun h => BitVec.eq_of_getLsbD_eq fun k hk => ?_⟩
  · rw [h, BitVec.getLsbD_zero]
  · rw [BitVec.getLsbD_zero]
    exact (hbit k hk).mpr (h k hk)

/-- As `agree_iff` for windows of the control value and mask. -/
theorem agree_window_iff (value : BitVec 9) (mask : BitVec 8) (start : Nat) {n : Nat} (input : BitVec n) :
    agree (value.extractLsb' start n) input (mask.extractLsb' start n) = true ↔
      ∀ k < n, mask.getLsbD (start + k) = true ∨ value.getLsbD (start + k) = input.getLsbD k := by
  rw [agree_iff]
  refine forall₂_congr fun k hk => ?_
  simp only [BitVec.getLsbD_extractLsb', hk, decide_true, Bool.true_and]

theorem addrCtlMatch_iff (w : Watch) (x : BusAccess) :
    w.addrCtlMatch x = true ↔
      (∀ k < 32, w.addrMask.getLsbD k = true ∨ w.addrValue.getLsbD k = x.addr.getLsbD k) ∧
      (∀ k < 5, w.ctlMask.getLsbD k = true ∨ w.ctlValue.getLsbD k = x.control.getLsbD k) := by
  rw [Watch.addrCtlMatch, Bool.and_eq_true, agree_iff, agree_window_iff]
  simp only [Nat.zero_add]

theorem getLsbD_coupling (range chain ext : Bool) :
    let inputs := BitVec.ofBool range ++ BitVec.ofBool chain ++ BitVec.ofBool ext
    inputs.getLsbD 2 = range ∧ inputs.getLsbD 1 = chain ∧ inputs.getLsbD 0 = ext := by
  cases range <;> cases chain <;> cases ext <;> exact ⟨rfl, rfl, rfl⟩

/-- The three coupling inputs are compared with bits 7 to 5 of the control registers (rule R51). -/
theorem dataCplMatch_iff (w : Watch) (x : BusAccess) (range chain ext : Bool) :
    w.dataCplMatch x 0#32 range chain ext = true ↔
      (∀ k < 32, w.dataMask.getLsbD k = true ∨ w.dataValue.getLsbD k = x.data.getLsbD k) ∧
      (w.ctlMask.getLsbD 7 = true ∨ w.ctlValue.getLsbD 7 = range) ∧
      (w.ctlMask.getLsbD 6 = true ∨ w.ctlValue.getLsbD 6 = chain) ∧
      (w.ctlMask.getLsbD 5 = true ∨ w.ctlValue.getLsbD 5 = ext) := by
  obtain ⟨hrange, hchain, hext⟩ := getLsbD_coupling range chain ext
  rw [Watch.dataCplMatch, BitVec.or_zero, Bool.and_eq_true, agree_iff, agree_window_iff]
  refine and_congr_right fun _ => ⟨fun h => ?_, ?_⟩
  · have h7 := h 2 (by decide)
    have h6 := h 1 (by decide)
    have h5 := h 0 (by decide)
    rw [hrange] at h7
    rw [hchain] at h6
    rw [hext] at h5
    exact ⟨h7, h6, h5⟩
  · rintro ⟨h7, h6, h5⟩ k hk
    match k, hk with
    | 0, _ => rw [hext]; exact h5
    | 1, _ => rw [hchain]; exact h6
    | 2, _ => rw [hrange]; exact h7

theorem latched_eq (w : Watch) (a d : Bool) : w.latched a d = { w with chainOut := if a = true then d else w.chainOut } := by
  cases a <;> rfl

/-- Comparing one bus cycle alone. -/
theorem observeAll_singleton (x : BusAccess) (s : State) : State.observeAll [x] s = s.observe x := by
  rw [State.observeAll]
  simp only [State.observeAll, Bool.or_false]

/-- Settles O57: the units compare bit by bit, and unit 1 takes two free bits as its inputs. -/
theorem watchpointComparison : Obligations.WatchpointComparison := by
  unfold Obligations.WatchpointComparison
  refine ⟨fun w x range chain ext => ⟨addrCtlMatch_iff w x, dataCplMatch_iff w x range chain ext⟩, fun s x hd => ?_⟩
  refine ⟨s.freeBit, s.drawn.freeBit, ?_⟩
  rw [observeAll_singleton, State.observe, hd, if_neg Bool.noConfusion]
  refine ⟨rfl, latched_eq .., latched_eq .., ?_⟩
  simp only [Watch.enabled, Bool.or_eq_true, Bool.and_eq_true, or_assoc]

/-! ## The TAP controller -/

/-- Settles O60. -/
theorem fiveTmsHighResetTheTap : Obligations.FiveTmsHighResetTheTap := by
  unfold Obligations.FiveTmsHighResetTheTap
  intro q
  cases q <;> rfl

/-! ## DBGEN LOW -/

theorem prefetchAbort_inDebug {s t : State} (h : s.prefetchAbort = .next t) : t.dbg.inDebug = s.dbg.inDebug := by
  unfold State.prefetchAbort at h
  split at h
  · rw [State.advance_next h]
    rfl
  · cases h
    rfl

/-- With the debug logic disabled no fetch is a breakpoint. -/
theorem fetchAndDecode_inDebug {s t : State} (hd : s.env.params.dbgen = false) (h : s.fetchAndDecode = .stops (.next t)) :
    t.dbg.inDebug = s.dbg.inDebug := by
  unfold State.fetchAndDecode at h
  rcases s.fetch_cases with ⟨u, e, hu⟩ | ⟨w, u, e, hu⟩ <;> rw [e] at h <;> dsimp only at h <;>
    rw [observeAll_of_disabled _ (by rw [hu.params, hd])] at h
  · rw [prefetchAbort_inDebug (Reached.stops.inj h), hu.inDebug]
  · rw [if_neg Bool.false_ne_true] at h
    split at h <;> cases h

/-- With the debug logic disabled a boundary makes no debug entry. -/
theorem reach_inDebug {s t : State} (hd : s.env.params.dbgen = false) (h : s.reach = .stops (.next t)) :
    t.dbg.inDebug = s.dbg.inDebug := by
  unfold State.reach at h
  split at h
  · cases h; rfl
  split at h
  · cases h; rfl
  split at h
  · cases h; rfl
  split at h
  · cases h; rfl
  rw [hd, Bool.false_and, if_neg Bool.false_ne_true] at h
  dsimp only at h
  split at h
  · cases h
  · exact fetchAndDecode_inDebug (s := { s with dbg := { s.dbg with entered := false } }) hd h

/-- With the debug logic disabled a step of the core neither enters nor leaves debug state. -/
theorem coreStep_inDebug {s t : State} (hd : s.env.params.dbgen = false) (h : s.coreStep = .next t) :
    t.dbg.inDebug = s.dbg.inDebug := by
  have hfrom := s.fresh.reach_from
  unfold State.coreStep at h
  cases hr : s.fresh.reach with
  | stops r =>
    rw [hr] at h
    dsimp only at h
    exact reach_inDebug (s := s.fresh) hd (hr.trans (congrArg _ h))
  | executes i u =>
    rw [hr] at h hfrom
    have hu : SameCore s.fresh u := hfrom
    obtain ⟨v, he, rfl⟩ := State.runInstruction_next h
    exact (v.watched_sameCore u).inDebug.trans ((exec_sameSetting he).inDebug.trans hu.inDebug)

/-- Outside debug state RUN-TEST-IDLE neither clocks nor restarts the core. -/
theorem idle_inDebug {s t : State} {q : TapState} (hin : s.dbg.inDebug = false) (h : s.idle q = .next t) :
    t.dbg.inDebug = false := by
  unfold State.idle at h
  dsimp only at h
  rw [hin] at h
  split at h
  · rw [if_neg (fun hc => Bool.false_ne_true hc.1)] at h
    cases h
  · rw [if_neg (fun hc => Bool.false_ne_true hc.2.2)] at h
    cases h
    exact hin

theorem tapEnter_inDebug {s t : State} {q : TapState} (hin : s.dbg.inDebug = false) (h : s.tapEnter q = .next t) :
    t.dbg.inDebug = false := by
  unfold State.tapEnter at h
  split at h
  case h_1 => cases h; exact hin
  case h_2 => exact idle_inDebug hin h
  case h_3 => exact (State.updateDr_sameCore h).inDebug.trans hin
  case h_4 => exact (State.updateIr_sameCore h).inDebug.trans hin
  all_goals cases h; exact hin

/-- Outside debug state no TCK cycle enters it. -/
theorem tck_inDebug {s t : State} {tms tdi : Bool} (hin : s.dbg.inDebug = false) (h : s.tck tms tdi = .next t) :
    t.dbg.inDebug = false := by
  unfold State.tck at h
  split at h
  · cases h
  · cases h
  · next u hu =>
    have hu' : u.dbg.inDebug = false := (State.tapAct_sameCore hu).inDebug.trans hin
    exact tapEnter_inDebug (by exact hu') h

/-- Reset ends debug state. -/
theorem resetEvent_inDebug {s t : State} {cycles : Nat} {after : Option Nat} (h : s.resetEvent cycles after = .next t) :
    t.dbg.inDebug = false := by
  unfold State.resetEvent at h
  split at h
  · cases h
  · cases after <;> cases h <;> rfl

theorem applied_inDebug {s t : State} {e : Event} (hd : s.env.params.dbgen = false) (hin : s.dbg.inDebug = false)
    (h : s.applied e = .next t) : t.dbg.inDebug = false := by
  cases e with
  | run => exact (coreStep_inDebug hd h).trans hin
  | reset cycles after => exact resetEvent_inDebug h
  | tck tms tdi => exact tck_inDebug (s := s.fresh) hin h
  | pins | memory | answers | nTrst => cases h; exact hin

/-- Settles O8: with DBGEN LOW the core makes no debug entry, and no event makes one. -/
theorem noDebugStateWithDbgenLow : Obligations.NoDebugStateWithDbgenLow := by
  unfold Obligations.NoDebugStateWithDbgenLow
  intro s t hd hin h
  unfold step at h
  split at h
  · exact (coreStep_inDebug hd h).trans hin
  · next e rest _ => exact applied_inDebug (s := { s with script := rest }) hd hin h

end Sys2Proof.Proofs
end

section
/-! PROOFS. The core in debug state: the clock in which a scanned instruction executes, and RESTART. -/

namespace Sys2Proof.Proofs

open Sys2Proof Sys2Proof.Machine Sys2Proof.Claims

/-! ## What an instruction is for the debugger -/

/-- A data processing instruction that does not name r15 as its destination does not empty the pipeline. -/
theorem debugKind_of_operand2 (o : Operand2) (op : DpOp) (cond : Cond) (sf : Bool) (rn : Reg) {rd : Reg} (h : rd ≠ 15#4) :
    ∃ b, Instr.debugKind (o.instr op cond sf rn rd) = .data b false := by
  have hpc := isPc_of_ne h
  cases o with
  | imm | shi =>
    refine ⟨false, ?_⟩
    cases op with
    | tst | teq | cmp | cmn => rfl
    | _ => exact congrArg _ hpc
  | shr =>
    refine ⟨true, ?_⟩
    cases op with
    | tst | teq | cmp | cmn => rfl
    | _ => exact congrArg _ hpc

theorem isTransfer_of_loadForm {i : Instr} {f : Single LoadKind} {s : State} (h : loadForm s i = some f) :
    (Instr.debugKind i).isTransfer = true := by
  cases i with
  | ldrhReg | ldrhImm | ldrsbReg | ldrsbImm | ldrshReg | ldrshImm | ldrImm | ldrImmPost | ldrReg | ldrRegPost | ldrbImm |
  ldrbImmPost | ldrbReg | ldrbRegPost | ldrtImm | ldrtReg | ldrbtImm | ldrbtReg | tLdrPc | tLdrsbReg | tLdrReg | tLdrhReg |
  tLdrbReg | tLdrshReg | tLdrImm | tLdrbImm | tLdrhImm | tLdrSp => rfl
  | _ => cases h

theorem debugKind_of_copForm {i : Instr} {s : State} (h : copForm s i ≠ none) : Instr.debugKind i = .denied := by
  cases i with
  | cdp | ldc | stc | mcr | mrc => rfl
  | _ => exact absurd rfl h

/-! ## A clock in debug state -/

/-- With two instructions in the pipeline the clock issues the first of them. -/
theorem debugClock_of_ready {s : State} {p q : DbgSlot} (hm : Mode.ofBits s.cpsr.m ≠ none) (hph : s.dbg.phase = .ready)
    (hpipe : s.dbg.pipe = [p, q]) (w : DbgSlot) : s.debugClock w = (s.scannedIn w).debugIssue p := by
  simp only [State.debugClock, if_neg hm, hph, hpipe]

theorem scanned_of_arm {s : State} (h : s.cpsr.t = false) (w : Word) : s.scanned w = decode false w := by
  rw [State.scanned, h]
  rfl

theorem debugIssue_of_denied {s : State} {slot : DbgSlot} {i : Instr} (ht : s.cpsr.t = false)
    (hdec : decode false slot.word = .ok i) (hk : Instr.debugKind i = .denied) :
    s.debugIssue slot = .refused .debugInstruction := by
  rw [State.debugIssue, scanned_of_arm ht, hdec]
  exact if_pos hk

/-- An instruction that takes no words executes in the clock in which it is issued. -/
theorem debugIssue_of_data {s : State} {slot : DbgSlot} {i : Instr} {b toPc : Bool} (ht : s.cpsr.t = false)
    (hdec : decode false slot.word = .ok i) (hk : Instr.debugKind i = .data b toPc) : s.debugIssue slot = s.debugExec i [] := by
  rw [State.debugIssue, scanned_of_arm ht, hdec]
  simp only [hk, DebugKind.words, reduceCtorEq, if_false, true_or, if_true]

/-- A data processing instruction that goes on moves the pipeline on by one and drives no word. -/
theorem debugExec_of_data {s t : State} {i : Instr} {b : Bool} (hk : Instr.debugKind i = .data b false)
    (he : exec i { s with dbg := { s.dbg with feed := some [], captured := [] } } = .next t) (hc : t.dbg.captured = []) :
    ∃ ph, s.debugExec i [] = .next { t with dbg := { s.dbg with pipe := s.dbg.pipe.tail, phase := ph } } := by
  refine ⟨if s.passes i && b then .internal else .ready, ?_⟩
  simp only [State.debugExec, he, hk, hc, DebugKind.flushes, DebugKind.internal, Bool.and_false, Bool.false_eq_true, if_false,
    ne_eq, not_true_eq_false]

/-- What a data processing instruction leaves does not depend on the debug hardware. -/
theorem dpNext_of_dbg (op : DpOp) (sf : Bool) (rd : Reg) (a : Word) (b : Shifted) (s : State) (d : Dbg) :
    dpNext op sf rd a b { s with dbg := d } = { dpNext op sf rd a b s with dbg := d } := by
  have hregs : ∀ v, (State.setReg { s with dbg := d } rd v).regs = (s.setReg rd v).regs :=
    State.setReg_regs_congr (s := s) (u := { s with dbg := d }) rfl rfl rd
  simp only [dpNext, hregs]
  rfl

theorem first_of_dbg (o : Operand2) (s : State) (d : Dbg) (rn : Reg) : o.first { s with dbg := d } rn = o.first s rn := by
  cases o <;> rfl

theorem second_of_dbg (o : Operand2) (s : State) (d : Dbg) : o.second { s with dbg := d } = o.second s := by
  cases o <;> rfl

/-- In debug state a data processing instruction executes as outside it, whatever the debug hardware holds. -/
theorem exec_operand2_in_debug {o : Operand2} {op : DpOp} {cond : Cond} {sf : Bool} {rn rd : Reg} {s : State} {d : Dbg}
    (hr : Runs (o.instr op cond sf rn rd) (o.reads rn) s) (hd : d.inDebug = true) (hrd : rd ≠ 15#4) :
    exec (o.instr op cond sf rn rd) { s with dbg := d } =
      .next { dpNext op sf rd (o.first s rn) (o.second s) s with dbg := d } := by
  rw [dataProcessingResult o op cond sf rn rd { s with dbg := d } hr (.inl hd) hrd, first_of_dbg, second_of_dbg, dpNext_of_dbg]

/-! ## RESTART -/

/-- An instruction that makes no access raises no watchpoint. -/
theorem watched_of_bus_eq {s t : State} (h : t.bus = s.bus) : t.watched s = t := by
  have hacc : t.accessesSince s = [] := by
    rw [State.accessesSince, h]
    exact List.drop_length
  rw [State.watched, hacc]
  rfl

theorem watched_entered (t s : State) : (t.watched s).dbg.entered = t.dbg.entered := by
  have h := congrArg (fun u => u.dbg.entered) (State.observeAll_frame (t.accessesSince s) t)
  unfold State.watched
  dsimp only
  split <;> exact h

/-- One instruction of the pipeline after RESTART, by how it leaves the core. -/
theorem restartPipe_cons {marked : Bool} {p : DbgSlot} {rest : List DbgSlot} {s t : State} {i : Instr}
    (hm : Mode.ofBits s.cpsr.m ≠ none) (ht : s.cpsr.t = false) (hdec : decode false p.word = .ok i)
    (hk : Instr.debugKind i ≠ .denied) (he : exec i s = .next t) :
    State.restartPipe marked (p :: rest) s =
      let last := rest.isEmpty || (s.passes i && (Instr.debugKind i).flushes s.cpsr)
      if (t.watched s).dbg.entered || (last && marked && (Instr.debugKind i).isTransfer) then
        .next (t.watched s).systemSpeedEnd
      else if last then .next (t.watched s).leaveDebug
      else State.restartPipe marked rest (t.watched s) := by
  simp only [State.restartPipe, if_neg hm, scanned_of_arm ht, hdec, if_neg hk, he]

/-- The debug hidden state in which RESTART lets the pipeline execute. -/
def resumedDbg (d : Dbg) : Dbg :=
  { d with entered := false, watchHit := false, phase := .ready, feed := none, captured := [] }

/-- The state in which the instruction after MOV R0, R0 executes on RESTART. -/
def afterNop (s : State) : State := { s.begun with pc := s.pc + 4, dbg := resumedDbg s.dbg }

theorem regFile_set_get (f : RegFile) (p : PhysReg) : f.set p (f.get p) = f := by
  cases p <;> rfl

/-- Writing back what a register holds changes nothing. -/
theorem setReg_reg_regs (s : State) {n : Reg} (hn : n ≠ 15#4) : (s.setReg n (s.reg n)).regs = s.regs := by
  obtain ⟨p, hp⟩ := Option.isSome_iff_exists.mp (phys_isSome s.mode hn)
  simp only [State.setReg, State.setIn, State.reg, State.regView, hp, regFile_set_get]

/-- MOV R0, R0 as the first of two instructions: the pipeline goes on with the second, marked. -/
theorem restart_of_nop {s : State} {p q : DbgSlot} (hm : Mode.ofBits s.cpsr.m ≠ none) (ht : s.cpsr.t = false)
    (hd : s.dbg.inDebug = true) (hpipe : s.dbg.pipe = [p, q]) (hp : p.word = 0xE1A00000#32) (hmark : p.mark = true)
    (hl : s.usrLdm = false) : s.restart = State.restartPipe true [q] (afterNop s) := by
  have hdec : decode false p.word = .ok (Operand2.instr (.shi 0#5 .lsl 0#4) .mov .al false 0#4 0#4) := by
    rw [hp]
    rfl
  have hruns : Runs (Operand2.instr (.shi 0#5 .lsl 0#4) .mov .al false 0#4 0#4) [0#4, 0#4] s :=
    ⟨ht, hm, rfl, rfl, by rw [State.hazard, hl]; rfl⟩
  have hnext : { dpNext .mov false 0#4 (s.reg 0#4) ⟨s.reg 0#4, s.cpsr.c⟩ s with dbg := resumedDbg s.dbg } = afterNop s := by
    simp only [dpNext, dpValue, setReg_reg_regs s (show 0#4 ≠ 15#4 by decide), len_of_arm ht]
    rfl
  have hexec := exec_operand2_in_debug (d := resumedDbg s.dbg) hruns hd (by decide)
  show State.restartPipe (s.dbg.pipe.any DbgSlot.mark) s.dbg.pipe { s with dbg := resumedDbg s.dbg } = _
  rw [hpipe, restartPipe_cons (s := { s with dbg := resumedDbg s.dbg }) hm ht hdec (by decide)
    (hexec.trans (congrArg _ hnext)), watched_of_bus_eq (by rfl), List.any_cons, hmark]
  rfl

theorem sameView_baseRegs {κ : Type} {s u : State} (h : SameView s u) (f : Single κ) :
    SameView (baseRegs f s) (baseRegs f u) := by
  unfold baseRegs
  split
  · exact sameView_setReg h f.rn f.tr.newBase
  · exact h

/-- A branch as the last instruction leaves debug state at its target. -/
theorem restartPipe_of_branch {s : State} {q : DbgSlot} {cond : Cond} {off : BitVec 24} (hm : Mode.ofBits s.cpsr.m ≠ none)
    (ht : s.cpsr.t = false) (hen : s.dbg.entered = false) (hdec : decode false q.word = .ok (.b cond off))
    (hc : conditionPassed s.cpsr cond = true) :
    State.restartPipe true [q] s = .next (State.leaveDebug
      { s.begun with
        pc := (s.pc + 8 + (off.signExtend 32 <<< 2)) &&& 0xFFFFFFFC#32, fetchPriv := s.isPriv, nextFetchPriv := s.isPriv }) := by
  have hnv : cond ≠ .nv := by
    rintro rfl
    cases hc
  have hwf : (Instr.b cond off).violation = none := if_neg fun h => hnv (Option.some.inj h)
  have hexec := (branchResult s).1 cond off ⟨ht, hm, hwf, hc, hazard_nil s⟩
  rw [restartPipe_cons hm ht hdec nofun hexec, watched_of_bus_eq (by rfl)]
  show (if (s.dbg.entered || false) = true then _ else _) = _
  rw [hen]
  rfl

/-- A marked transfer as the last instruction that completes brings the core back to debug state, whatever watchpoint it raises. -/
theorem restartPipe_of_transfer {s t : State} {q : DbgSlot} {i : Instr} (hm : Mode.ofBits s.cpsr.m ≠ none)
    (ht : s.cpsr.t = false) (hdec : decode false q.word = .ok i) (htr : (Instr.debugKind i).isTransfer = true)
    (he : exec i s = .next t) (hen : t.dbg.entered = false) :
    State.restartPipe true [q] s = .next ((t.watched s).enterDebug 2 (some true)) := by
  have hk : Instr.debugKind i ≠ .denied := fun h => by
    rw [h] at htr
    cases htr
  have hen' : (t.watched s).dbg.entered = false := (watched_entered t s).trans hen
  rw [restartPipe_cons hm ht hdec hk he, hen', htr, State.systemSpeedEnd_of_completed hen']
  rfl

/-- With the slot of the instruction itself the return to debug state counts three. -/
theorem pc_after_transfer {s t : State} (ht : s.cpsr.t = false) (hpc : t.pc = s.pc + s.len) (hc : t.cpsr = s.cpsr) :
    ((t.watched s).enterDebug 2 (some true)).pc = s.pc + 12 := by
  have hcore := t.watched_sameCore s
  have harm : (t.watched s).cpsr.t = false := by rw [hcore.cpsr, hc, ht]
  rw [State.enterDebug_pc, hcore.pc, hpc, len_of_arm harm, len_of_arm ht]
  exact BitVec.add_assoc s.pc 4#32 8#32

/-- As `restartPipe_of_transfer` for a load that finds memory. -/
theorem restartPipe_of_load {s : State} {q : DbgSlot} {i : Instr} {f : Single LoadKind} (ht : s.cpsr.t = false)
    (hd : s.dbg.inDebug = true) (hen : s.dbg.entered = false) (hdec : decode false q.word = .ok i) (hf : loadForm s i = some f)
    (hr : Runs i f.reads s) (hrd : f.rd ≠ 15#4) (hal : f.kind.size.aligned f.tr.addr = true)
    (hread : Readable s f.tr.addr f.kind.size (s.isPriv && !f.user)) :
    ∃ u, State.restartPipe true [q] s = .next u ∧ u.dbg.inDebug = true ∧ u.dbg.bit33 = some true ∧ u.dbg.pipe = [] ∧
      u.pc = s.pc + 12 ∧
      u.regs = ((baseRegs f s).setReg f.rd (loaded f.kind s.env.params.bigend s.mem f.tr.addr)).regs ∧
      u.cpsr = s.cpsr ∧ u.spsr = s.spsr ∧ u.mem = s.mem := by
  have ⟨_, hm, _⟩ := hr
  have hexec := loadResult i f s hf hr (.inl hd) hrd hal hread
  have hcore := fun t : State => t.watched_sameCore s
  refine ⟨_, restartPipe_of_transfer hm ht hdec (isTransfer_of_loadForm hf) hexec hen, rfl, rfl, rfl,
    pc_after_transfer ht rfl rfl, (hcore _).regs, (hcore _).cpsr, (hcore _).spsr, (hcore _).mem⟩

/-- The address of a load is made of registers and the program counter. -/
theorem loadForm_of_dbg (s : State) (d : Dbg) (i : Instr) : loadForm { s with dbg := d } i = loadForm s i := rfl

/-- Settles O59: a scanned instruction executes as outside debug state because only the debug hardware differs; RESTART runs the two
instructions of the pipeline, of which the second decides how it ends. -/
theorem debugStateExecutesScannedInstructions : Obligations.DebugStateExecutesScannedInstructions := by
  unfold Obligations.DebugStateExecutesScannedInstructions
  intro s p q hm ht hd hph hpipe
  refine ⟨fun o op cond sf rn rd w hdec hr hrd => ?data, fun i w hdec h => ?denied, fun hp hmark hl _ =>
    ⟨fun cond off hdec hc => ?branch, ?load⟩⟩
  case data =>
    obtain ⟨b, hk⟩ := debugKind_of_operand2 o op cond sf rn hrd
    have hexec := exec_operand2_in_debug (d := { (s.scannedIn w).dbg with feed := some [], captured := [] }) hr hd hrd
    obtain ⟨ph, hu⟩ := debugExec_of_data (s := s.scannedIn w) hk hexec rfl
    refine ⟨_, (debugClock_of_ready hm hph hpipe w).trans ((debugIssue_of_data (s := s.scannedIn w) ht hdec hk).trans hu), hd, ?_,
      rfl⟩
    show (s.dbg.pipe ++ [w]).tail = [q, w]
    rw [hpipe]
    rfl
  case denied =>
    have hk : Instr.debugKind i = .denied := by
      rcases h with ⟨cond, imm, rfl⟩ | ⟨cond, byte, rn, rd, rm, rfl⟩ | ⟨cond, sf, rd, rn, rs, rm, rfl⟩ | h
      · rfl
      · cases byte <;> rfl
      · rfl
      · exact debugKind_of_copForm h
    exact (debugClock_of_ready hm hph hpipe w).trans (debugIssue_of_denied (s := s.scannedIn w) ht hdec hk)
  case branch =>
    have hpc : s.pc + 4 + 8 = s.pc + 12 := BitVec.add_assoc s.pc 4#32 8#32
    refine ⟨_, (restart_of_nop hm ht hd hpipe hp hmark hl).trans
      (restartPipe_of_branch (s := afterNop s) hm ht rfl hdec hc), rfl, ?_, rfl, rfl, rfl, rfl⟩
    exact congrArg (fun a => (a + (off.signExtend 32 <<< 2)) &&& 0xFFFFFFFC#32) hpc
  case load =>
    intro i f s' hdec hf hr hrd hal hread
    have hview : SameView s' (afterNop s) := ⟨rfl, rfl, rfl, rfl, rfl⟩
    obtain ⟨u, hu, hin, h33, hpipe', hpc, hregs, hcpsr, hspsr, hmem⟩ :=
      restartPipe_of_load (s := afterNop s) ht hd rfl hdec ((loadForm_of_dbg s' _ i).trans hf) hr hrd hal hread
    refine ⟨u, (restart_of_nop hm ht hd hpipe hp hmark hl).trans hu, hin, h33, hpipe', hpc.trans ?_, hregs.trans ?_, hcpsr, hspsr,
      hmem⟩
    · exact BitVec.add_assoc s.pc 4#32 12#32
    · exact (sameView_baseRegs hview f).setReg_regs f.rd _

end Sys2Proof.Proofs
end

section
/-! PROOFS. The hazard after a User-bank LDM: which registers the gate of each instruction tests, and the coprocessor instructions,
which read theirs past the gate. -/

namespace Sys2Proof.Proofs

open Sys2Proof Sys2Proof.Machine Sys2Proof.Claims

/-! ## The hazard -/

/-- The gate refuses an instruction that it would let act but for the hazard. -/
theorem runArm_of_hazard {cond : Cond} {r : Option Restriction} {reads : List Reg} {s : State} (effect : State → Result)
    (hm : Mode.ofBits s.cpsr.m ≠ none) (hc : conditionPassed s.cpsr cond = true) (hr : r = none) (hz : s.hazard reads = true) :
    runArm cond r reads s effect = .refused .userBankHazard := by
  have hn : cond ≠ .nv := by
    rintro rfl
    cases hc
  subst hr
  unfold runArm
  rw [if_neg hm, if_neg hn, if_pos hc]
  exact if_pos hz

theorem mode_ne_of_bits_ne {s : State} {m : Mode} (hm : Mode.ofBits s.cpsr.m ≠ none) (h : s.cpsr.m ≠ m.bits) : s.mode ≠ m := by
  have hbits : ∀ b : BitVec 5, Mode.ofBits b ≠ none → ((Mode.ofBits b).getD .usr).bits = b := by decide
  rintro rfl
  exact h (hbits s.cpsr.m hm).symm

/-- Right after a User-bank LDM, in a mode with banked registers, reading one of r8 to r14 is the hazard. -/
theorem hazard_of_reads {s : State} {reads : List Reg} (hm : Mode.ofBits s.cpsr.m ≠ none) (hl : s.usrLdm = true)
    (husr : s.cpsr.m ≠ 0b10000#5) (hsys : s.cpsr.m ≠ 0b11111#5) (h : ∃ r ∈ reads, 8 ≤ r.toNat ∧ r.toNat ≤ 14) :
    s.hazard reads = true := by
  have hu : s.mode ≠ .usr := mode_ne_of_bits_ne hm husr
  have hs : s.mode ≠ .sys := mode_ne_of_bits_ne hm hsys
  rw [State.hazard, hl, decide_eq_true hu, decide_eq_true hs]
  simpa only [Bool.true_and, List.any_eq_true, Bool.and_eq_true, decide_eq_true_eq] using h

/-! ## The gate -/

/-- The gate of every instruction that is offered to no coprocessor tests the banked registers that the instruction reads. -/
theorem exec_of_hazard {i : Instr} {s : State} (h : copForm s i = none) (hm : Mode.ofBits s.cpsr.m ≠ none)
    (hv : i.violation = none) (hc : conditionPassed s.cpsr (i.cond?.getD .al) = true) (hz : s.hazard (readsOf s i) = true) :
    exec i s = .refused .userBankHazard := by
  have hres := restriction_of_violation hv
  cases i with
  | andImm | eorImm | subImm | rsbImm | addImm | adcImm | sbcImm | rscImm | tstImm | teqImm | cmpImm | cmnImm | orrImm |
  movImm | bicImm | mvnImm =>
    simp only [exec, execAndImm, execEorImm, execSubImm, execRsbImm, execAddImm, execAdcImm, execSbcImm, execRscImm,
      execTstImm, execTeqImm, execCmpImm, execCmnImm, execOrrImm, execMovImm, execBicImm, execMvnImm, dpImm]
    exact runArm_of_hazard _ hm hc hres hz
  | andShi | eorShi | subShi | rsbShi | addShi | adcShi | sbcShi | rscShi | tstShi | teqShi | cmpShi | cmnShi | orrShi |
  movShi | bicShi | mvnShi =>
    simp only [exec, execAndShi, execEorShi, execSubShi, execRsbShi, execAddShi, execAdcShi, execSbcShi, execRscShi,
      execTstShi, execTeqShi, execCmpShi, execCmnShi, execOrrShi, execMovShi, execBicShi, execMvnShi, dpShi]
    exact runArm_of_hazard _ hm hc hres hz
  | andShr | eorShr | subShr | rsbShr | addShr | adcShr | sbcShr | rscShr | tstShr | teqShr | cmpShr | cmnShr | orrShr |
  movShr | bicShr | mvnShr =>
    simp only [exec, execAndShr, execEorShr, execSubShr, execRsbShr, execAddShr, execAdcShr, execSbcShr, execRscShr,
      execTstShr, execTeqShr, execCmpShr, execCmnShr, execOrrShr, execMovShr, execBicShr, execMvnShr, dpShr]
    exact runArm_of_hazard _ hm hc hres hz
  | mul | mla | umull | umlal | smull | smlal =>
    simp only [exec, execMul, execMla, execUmull, execUmlal, execSmull, execSmlal]
    exact runArm_of_hazard _ hm hc hres hz
  | msrReg | bx | swp | swpb =>
    simp only [exec, execMsrReg, execBx, execSwp, execSwpb]
    exact runArm_of_hazard _ hm hc hres hz
  | ldrhReg | ldrhImm | ldrsbReg | ldrsbImm | ldrshReg | ldrshImm | ldrImm | ldrImmPost | ldrReg | ldrRegPost | ldrbImm |
  ldrbImmPost | ldrbReg | ldrbRegPost | ldrtImm | ldrtReg | ldrbtImm | ldrbtReg =>
    simp only [exec, execLdrhReg, execLdrhImm, execLdrsbReg, execLdrsbImm, execLdrshReg, execLdrshImm, execLdrImm,
      execLdrImmPost, execLdrReg, execLdrRegPost, execLdrbImm, execLdrbImmPost, execLdrbReg, execLdrbRegPost,
      execLdrtImm, execLdrtReg, execLdrbtImm, execLdrbtReg, loadOp]
    exact runArm_of_hazard _ hm hc hres hz
  | strhReg | strhImm | strImm | strImmPost | strReg | strRegPost | strbImm | strbImmPost | strbReg | strbRegPost | strtImm
  | strtReg | strbtImm | strbtReg =>
    simp only [exec, execStrhReg, execStrhImm, execStrImm, execStrImmPost, execStrReg, execStrRegPost, execStrbImm,
      execStrbImmPost, execStrbReg, execStrbRegPost, execStrtImm, execStrtReg, execStrbtImm, execStrbtReg, storeOp]
    exact runArm_of_hazard _ hm hc hres hz
  | ldmia | ldmib | ldmda | ldmdb | tPop =>
    simp only [exec, execLdmia, execLdmib, execLdmda, execLdmdb, execTPop, loadMultiple, runThumb]
    exact runArm_of_hazard _ hm hc hres hz
  | stmia | stmib | stmda | stmdb | tPush =>
    simp only [exec, execStmia, execStmib, execStmda, execStmdb, execTPush, storeMultiple, runThumb]
    exact runArm_of_hazard _ hm hc hres hz
  | tAddHi | tCmpHi | tMovHi | tBx | tBlLo | tAddSp | tIncSp | tDecSp =>
    simp only [exec, execTAddHi, execTCmpHi, execTMovHi, execTBx, execTBlLo, execTAddSp, execTIncSp, execTDecSp, runThumb]
    exact runArm_of_hazard _ hm hc hres hz
  | tLdrSp | tStrSp =>
    simp only [exec, execTLdrSp, execTStrSp, thumbLoad, thumbStore, runThumb]
    exact runArm_of_hazard _ hm hc hres hz
  | cdp | ldc | stc | mcr | mrc => cases h
  | _ => cases hz.symm.trans (hazard_nil s)

/-! ## Coprocessor instructions -/

/-- LDC, STC and MCR read their register once a coprocessor has accepted; CDP and MRC read none. -/
theorem exec_of_copHazard {i : Instr} {o : CopOffer} {c : CopPort} {r : CopRule} {s : State} (ho : copForm s i = some o)
    (hn : o.number ≠ 14#4) (ha : Accepts s o c r) (hoff : Offered i s) (hv : i.violation = none)
    (hz : s.hazard (readsOf s i) = true) : exec i s = .refused .userBankHazard := by
  have hres := restriction_of_violation hv
  cases i with
  | ldc cond p u l w rn crd n off =>
    cases ho
    refine (exec_of_copEffect rfl hoff).trans ((if_neg hn).trans ((handshake_of_accepts (s := s.begun) ha _).trans ?_))
    rw [show Restriction.coprocessorTransfer p w rn = none from hres]
    exact if_pos hz
  | stc cond p u l w rn crd n off =>
    cases ho
    refine (exec_of_copEffect rfl hoff).trans ((if_neg hn).trans ((handshake_of_accepts (s := s.begun) ha _).trans ?_))
    rw [show Restriction.coprocessorTransfer p w rn = none from hres]
    exact if_pos hz
  | mcr cond op1 crn rd n op2 crm =>
    cases ho
    refine (exec_of_copEffect rfl hoff).trans ((if_neg hn).trans ((handshake_of_accepts (s := s.begun) ha _).trans ?_))
    rw [isPc_of_mcr hv, if_neg Bool.false_ne_true]
    exact if_pos hz
  | cdp | mrc => cases hz.symm.trans (hazard_nil s)
  | _ => cases ho

/-- Settles O17: the gate tests the registers read, or a coprocessor that has accepted leaves the test to the instruction. -/
theorem userBankHazardIsRefused : Obligations.UserBankHazardIsRefused := by
  unfold Obligations.UserBankHazardIsRefused
  intro i s ht hv hc hm hl husr hsys hreads hcop
  have hz := hazard_of_reads hm hl husr hsys hreads
  cases ho : copForm s i with
  | none => exact exec_of_hazard ho hm hv hc hz
  | some o =>
    obtain ⟨hn, c, r, ha⟩ := hcop o ho
    have harm : isThumb i = false := by
      cases i with
      | cdp | ldc | stc | mcr | mrc => rfl
      | _ => cases ho
    exact exec_of_copHazard ho hn ha ⟨ht.trans harm, hm, hc⟩ hv hz

end Sys2Proof.Proofs
end
